-- ==== Sys2Proof/Config.lean ====
section
/-! DEFINITION. The configuration of the block: every parameter of 00_scope.md R6, fixed for a run, each a constant of its
own. One with a default stands at the default, and a block built otherwise is modelled by another number here (log
entries 7 and 9). One that R6 leaves OPEN has no body, so nothing can be proved about its value (log entry 8). Beside them,
the free values the environment draws. The literals the source fixes (R5) stand in Machine/Params.lean. -/

namespace Sys2Proof.Config

/-! ### Widths -/

/-- TICK_W: the width of the Tick Counter. -/
@[simp] abbrev tickW : Nat := 16
/-- DUR_W: the width of the WAIT duration operand. -/
@[simp] abbrev durW : Nat := 16
/-- NSTEP_W: the width of the STEP num_steps operand, unsigned. -/
@[simp] abbrev nstepW : Nat := 8
/-- DIR_W: the width of the STEP direction operand, two's complement. -/
@[simp] abbrev dirW : Nat := 8
/-- RATE_W: the width of the TMR_START rate operand. -/
@[simp] abbrev rateW : Nat := 8
/-- RSP_W: the width of the response value; at least TICK_W (30_encoding.md R71). -/
@[simp] abbrev rspW : Nat := 16
/-- CMP_W: the width of the comparison threshold. -/
@[simp] abbrev cmpW : Nat := 8

/-! ### Rate units -/

/-- CMP_SLOW (R6: OPEN, log entry 8): the comparison threshold of the SLOW rate unit. -/
opaque cmpSlow : BitVec cmpW
/-- CMP_FAST (R6: OPEN, log entry 8): the comparison threshold of the FAST rate unit. -/
opaque cmpFast : BitVec cmpW
/-- DIV_SLOW (R6: OPEN): the prescale divisor of the SLOW rate unit. That it is a natural number is the model's choice (DESIGN
CHOICE, log entry 8). -/
opaque divSlow : Nat
/-- DIV_FAST (R6: OPEN): the prescale divisor of the FAST rate unit. That it is a natural number is the model's choice (DESIGN
CHOICE, log entry 8). -/
opaque divFast : Nat
/-- PERIOD_SLOW (R6, R5's PERIOD_NOMINAL): one tick under SLOW, in nominal milliseconds; no rule depends on it (R229). -/
def periodSlow : Rat := 1
/-- PERIOD_FAST (R6: OPEN): one tick under FAST, in nominal milliseconds. That it is a rational number is the model's choice
(DESIGN CHOICE, log entry 8); it may lie on either side of PERIOD_SLOW (90_conflicts.md C5). -/
opaque periodFast : Rat

/-! ### Free values -/

/-- The n-th sample the environment draws for the button port where State names none (20_memory.md R52, U10; free
value, log entry 4). -/
opaque btnDraw : Nat → BitVec 6
/-- The n-th sample the environment draws for the encoder port where State names none (R52, U10; free value, log
entry 4). -/
opaque encDraw : Nat → BitVec 2

/-! ### STEP_INIT -/

/-- The three parameters of STEP_INIT that the source leaves open (42_stepper.md R151, U8). -/
structure StepInitParams where
  /-- REST_PATTERN: what STEP_INIT drives on the coil port. -/
  restPattern : BitVec 4
  /-- INIT_WAIT_TICKS: the length of its wait. -/
  initWaitTicks : BitVec durW
  /-- INIT_RESETS_COIL: whether it writes COIL. -/
  initResetsCoil : Bool
  deriving DecidableEq, Repr

/-- The block's REST_PATTERN, INIT_WAIT_TICKS and INIT_RESETS_COIL, at R6's defaults (log entry 7). -/
def stepInit : StepInitParams where
  restPattern := 0b0001
  initWaitTicks := 2
  initResetsCoil := true

end Sys2Proof.Config
end

