-- ==== Sys2Proof/Word.lean ====
section
/-! DEFINITION. The word types of the block: one name for each width of 00_scope.md R5 and R6, the
widths of R6 taken from Config.lean (log entry 9). No value of the block is ever split into bytes (20_memory.md R53), so there is no byte type and no byte order. -/

namespace Sys2Proof

/-- A command word, CMD[23:0]: CMD_W = 24 (30_encoding.md R70, R72). -/
abbrev CmdBits := BitVec 24
/-- A value of TICK: TICK_W bits (R6). -/
abbrev TickVal := BitVec Config.tickW
/-- A WAIT duration, and the latch WTGT: DUR_W bits. -/
abbrev Duration := BitVec Config.durW
/-- A STEP count, and the latch REM: NSTEP_W bits. -/
abbrev StepCount := BitVec Config.nstepW
/-- A STEP direction operand, two's complement: DIR_W bits. -/
abbrev DirByte := BitVec Config.dirW
/-- A TMR_START rate operand: RATE_W bits. -/
abbrev RateByte := BitVec Config.rateW
/-- A response value: RSP_W bits. -/
abbrev RspVal := BitVec Config.rspW
/-- A comparison threshold: CMP_W bits. -/
abbrev CmpVal := BitVec Config.cmpW
/-- One bit per coil line (COIL, COILOUT, COIL_OE): N_COIL_LINES = 4. -/
abbrev CoilBits := BitVec 4
/-- A sample of the button port, 0 = pressed: N_BTN_LINES = 6. -/
abbrev BtnSample := BitVec 6
/-- A sample of the encoder port, 0 = active: N_ENC_LINES = 2. -/
abbrev EncSample := BitVec 2

/-- A word as the HOST presents it at the command port: its bits and how many there are. Only 24-bit words can be
commands (20_memory.md R54), but a word of another length can be presented, and is refused. -/
structure CmdWord where
  width : Nat
  bits : Nat
  deriving DecidableEq, Repr

end Sys2Proof
end

