-- ==== Sys2Proof/Syntax.lean ====
section
/-! DEFINITION. The eight commands of 30_encoding.md R73, one constructor per row of spec/opcode_table.json. -/

namespace Sys2Proof

/-- One command with its operands as R75 takes them from the word. -/
inductive Instr where
  /-- TMR_START r (40_timer.md R100): r = 0x00 is SLOW, 0x01 is FAST, any other is out of contract (R76). -/
  | tmrStart (rate : RateByte)
  /-- TMR_STOP (R103). -/
  | tmrStop
  /-- TICK_RD (R106). -/
  | tickRd
  /-- WAIT d (41_wait.md R120). -/
  | wait (duration : Duration)
  /-- STEP n, dir (42_stepper.md R140): every direction byte is defined (R77). -/
  | step (numSteps : StepCount) (direction : DirByte)
  /-- STEP_INIT (R150). -/
  | stepInit
  /-- BTN_RD (43_inputs.md R160). -/
  | btnRd
  /-- ENC_RD (R164). -/
  | encRd
  deriving DecidableEq, Repr

/-- The mnemonic of R73 and R82. -/
def Instr.mnemonic : Instr → String
  | .tmrStart _ => "TMR_START"
  | .tmrStop => "TMR_STOP"
  | .tickRd => "TICK_RD"
  | .wait _ => "WAIT"
  | .step _ _ => "STEP"
  | .stepInit => "STEP_INIT"
  | .btnRd => "BTN_RD"
  | .encRd => "ENC_RD"

end Sys2Proof
end

