-- ==== Sys2Proof/WellFormed.lean ====
section
/-! DEFINITION. What a well-formed command and a well-formed presented word are. The operand types already bound every
width; the one operand value without a meaning is a rate other than SLOW and FAST (30_encoding.md R76). -/

namespace Sys2Proof

/-- A command is well formed when no operand is out of contract: only TMR_START's rate can be (R76). Step counts outside
1 to 200 and directions other than +1 and -1 are defined (R77, 42_stepper.md R146). -/
def Instr.wellFormed : Instr → Bool
  | .tmrStart r => r.toNat ≤ 1
  | .tmrStop => true
  | .tickRd => true
  | .wait _ => true
  | .step _ _ => true
  | .stepInit => true
  | .btnRd => true
  | .encRd => true

/-- A presented word is well formed when it is exactly 24 bits (20_memory.md R54). -/
def CmdWord.wellFormed (w : CmdWord) : Bool :=
  w.width = 24 && w.bits < 2 ^ 24

end Sys2Proof
end

