-- ==== Sys2Proof/Decode.lean ====
section
/-! DEFINITION. The command word: its fields (30_encoding.md R72), the decoder (R73, R74, R75, R78), the encoder written
from the same tables, the opcode map of R73 as rows, and the operand spellings of R82 and R83. The decoder is total on
every word and refuses by name. -/

namespace Sys2Proof

/-! ### Fields of the word (R72) -/

/-- OP = CMD[23:20]. -/
def fieldOp (w : CmdBits) : BitVec 4 := w.extractLsb' 20 4
/-- Z = CMD[19:16], must be 0000. -/
def fieldZ (w : CmdBits) : BitVec 4 := w.extractLsb' 16 4
/-- A = CMD[15:8]. -/
def fieldA (w : CmdBits) : BitVec 8 := w.extractLsb' 8 8
/-- B = CMD[7:0]. -/
def fieldB (w : CmdBits) : BitVec 8 := w.extractLsb' 0 8
/-- IMM16 = CMD[15:0], A ++ B as one operand. -/
def fieldImm16 (w : CmdBits) : BitVec 16 := w.extractLsb' 0 16

/-! ### The decoder -/

/-- Why a presented word is no command. -/
inductive DecodeError where
  /-- The word is not exactly 24 bits (20_memory.md R54). -/
  | wrongLength
  /-- OP is 0x0 or 0x9 to 0xF (30_encoding.md R78(a)). -/
  | reservedOpcode
  /-- Z is not 0000 (R78(b)). -/
  | reservedZ
  /-- An operand byte the format fixes at 0x00 is not 0x00 (R78(c) and (d)). -/
  | reservedOperand
  deriving DecidableEq, Repr

/-- A format N command: A and B must be 0x00 (R72, R78(c)). -/
def formatN (i : Instr) (w : CmdBits) : Except DecodeError Instr :=
  if fieldA w = 0 ∧ fieldB w = 0 then .ok i else .error .reservedOperand

/-- A format R command: A must be 0x00, B is the rate (R72, R78(d)). -/
def formatR (w : CmdBits) : Except DecodeError Instr :=
  if fieldA w = 0 then .ok (.tmrStart ((fieldB w).setWidth Config.rateW)) else .error .reservedOperand

/-- A command whose Z field is 0000 (R78(b)). -/
def withZ (w : CmdBits) (r : Except DecodeError Instr) : Except DecodeError Instr :=
  if fieldZ w = 0 then r else .error .reservedZ

/-- Decode one 24-bit word (R73, R75, R78). A word of several reserved kinds is named by the first of opcode, Z,
operand. A rate byte above 0x01 is decoded and refused by TMR_START's own rule (R76, 40_timer.md R100). -/
def decode (w : CmdBits) : Except DecodeError Instr :=
  match (fieldOp w).toNat with
  | 1 => withZ w (formatR w)
  | 2 => withZ w (formatN .tmrStop w)
  | 3 => withZ w (formatN .tickRd w)
  | 4 => withZ w (.ok (.wait ((fieldImm16 w).setWidth Config.durW)))
  | 5 => withZ w (.ok (.step ((fieldA w).setWidth Config.nstepW) ((fieldB w).signExtend Config.dirW)))
  | 6 => withZ w (formatN .stepInit w)
  | 7 => withZ w (formatN .btnRd w)
  | 8 => withZ w (formatN .encRd w)
  | _ => .error .reservedOpcode

/-- Decode a word as presented: a word that is not exactly 24 bits is no command (20_memory.md R54). -/
def decodeWord (w : CmdWord) : Except DecodeError Instr :=
  if w.wellFormed then decode (BitVec.ofNat 24 w.bits) else .error .wrongLength

/-- The presented word that the opcode table's numbering (bit 0 least significant) calls `w`, with the bits above
`nbits` zero: words travel whole (20_memory.md R53), so nothing is laid out in bytes. -/
def tableWord (nbits w : Nat) : CmdWord := { width := max nbits 24, bits := w }

/-- The command the decoder reads from the table's word `w`, none where it refuses. -/
def decodeTableWord (nbits w : Nat) : Option Instr :=
  (decodeWord (tableWord nbits w)).toOption

/-! ### The encoder (R72, R73, R75) -/

/-- OP of each command (R73). -/
def Instr.opcode : Instr → BitVec 4
  | .tmrStart _ => 0x1
  | .tmrStop => 0x2
  | .tickRd => 0x3
  | .wait _ => 0x4
  | .step _ _ => 0x5
  | .stepInit => 0x6
  | .btnRd => 0x7
  | .encRd => 0x8

/-- A ++ B of each command, by its format (R72): the operand at the width of its field. -/
def Instr.operandBits : Instr → BitVec 16
  | .tmrStart r => (0x00 : BitVec 8) ++ r.setWidth 8
  | .tmrStop => 0
  | .tickRd => 0
  | .wait d => d.setWidth 16
  | .step n dir => n.setWidth 8 ++ dir.setWidth 8
  | .stepInit => 0
  | .btnRd => 0
  | .encRd => 0

/-- The command's 24-bit word: OP, Z = 0000, A, B. -/
def encode (i : Instr) : CmdBits :=
  (i.opcode ++ (0 : BitVec 4) ++ i.operandBits : BitVec (4 + 4 + 16))

/-- The command's word as the HOST presents it. -/
def encodeWord (i : Instr) : CmdWord := { width := 24, bits := (encode i).toNat }

/-! ### The opcode map of R73 -/

/-- One row of R73: a word `w` selects the command when `w &&& mask = bits`. -/
structure OpcodeRow where
  mnemonic : String
  bits : CmdBits
  mask : CmdBits
  deriving DecidableEq, Repr

/-- The eight rows of R73, as the table has them. -/
def opcodeRows : List OpcodeRow := [
  { mnemonic := "TMR_START", bits := 0x100000, mask := 0xFFFF00 },
  { mnemonic := "TMR_STOP", bits := 0x200000, mask := 0xFFFFFF },
  { mnemonic := "TICK_RD", bits := 0x300000, mask := 0xFFFFFF },
  { mnemonic := "WAIT", bits := 0x400000, mask := 0xFF0000 },
  { mnemonic := "STEP", bits := 0x500000, mask := 0xFF0000 },
  { mnemonic := "STEP_INIT", bits := 0x600000, mask := 0xFFFFFF },
  { mnemonic := "BTN_RD", bits := 0x700000, mask := 0xFFFFFF },
  { mnemonic := "ENC_RD", bits := 0x800000, mask := 0xFFFFFF }]

/-- The word selects the row (R73). -/
def OpcodeRow.selects (r : OpcodeRow) (w : CmdBits) : Prop := w &&& r.mask = r.bits

/-! ### Operand spellings (R82, R83) -/

/-- How a rate is written: `SLOW`, `FAST` or `#k`. -/
inductive RateSpelling where
  | SLOW
  | FAST
  | lit (k : RateByte)
  deriving DecidableEq, Repr

/-- How a direction is written: `+1` or `CW`, `-1` or `CCW`, or any `k` in -128 to 127. -/
inductive DirSpelling where
  | CW
  | CCW
  | lit (k : Int)
  deriving DecidableEq, Repr

/-- The rate byte a spelling stands for (R75, R82). -/
def RateSpelling.byte : RateSpelling → RateByte
  | .SLOW => 0x00
  | .FAST => 0x01
  | .lit k => k

/-- The direction byte a spelling stands for, two's complement (R75, R82, R83). -/
def DirSpelling.byte : DirSpelling → DirByte
  | .CW => 0x01
  | .CCW => -1
  | .lit k => BitVec.ofInt Config.dirW k

end Sys2Proof
end

