-- ==== Sys2Proof/Machine/Params.lean ====
section
/-! DEFINITION. The named literals of the block: the constants of 00_scope.md R5 that the source fixes (unaudited, U12). -/

namespace Sys2Proof.Machine.Params

/-- COIL_RESET (R5): Coil Position at first use. -/
def coilReset : CoilBits := 0b0001
/-- ENC_RELEASED (R5): the "both released" pattern, and ENC_PREV's reset value. -/
def encReleased : EncSample := 0b11
/-- ENC_FIRST (R5): the "first-active" pattern. -/
def encFirst : EncSample := 0b01
/-- The "second-active" pattern (43_inputs.md R166, the spec's reading by elimination, D21). -/
def encSecond : EncSample := 0b10
/-- SETTLE_TICKS (R5): the wait after each motor step. -/
def settleTicks : Duration := 2
/-- The pattern that clears the coil port: all lines de-energized (42_stepper.md R144). -/
def coilsCleared : CoilBits := 0b0000
/-- The output-mode bits STEP_INIT writes (R150). -/
def coilOeAll : CoilBits := 0b1111
/-- The direction byte of +1, clockwise (30_encoding.md R75). -/
def dirPlusOne : DirByte := 0x01
/-- The direction byte of -1, counterclockwise (R75). -/
def dirMinusOne : DirByte := -1
/-- The rate byte of SLOW (R75). -/
def rateSlow : RateByte := 0x00
/-- The rate byte of FAST (R75). -/
def rateFast : RateByte := 0x01
/-- STEP_CONTRACT_MIN (R5): the contract's least step count; not enforced (42_stepper.md R146). -/
def stepContractMin : Nat := 1
/-- STEP_CONTRACT_MAX (R5): the contract's greatest step count; not enforced (R146). -/
def stepContractMax : Nat := 200

end Sys2Proof.Machine.Params
end

