-- ==== Sys2Proof/Machine/State.lean ====
section
/-! DEFINITION. The state of the block (10_state.md): its fourteen cells, and beside them what the interface carries
(the HOST's pending actions, the samples the environment will draw, the completions given) and the order in which the
agents of 00_scope.md R13 take their turns. Plain data throughout. The block has no registers (R20), no program counter
(R21; its analogue is SEQ), no memory (20_memory.md R50), no flags (R33), no pending-interrupt latch (R35) and no timer
count (R36). -/

namespace Sys2Proof.Machine

/-- SEQ's five micro-states (R21). -/
inductive Seq where
  /-- No command in progress; the command port is ready. -/
  | idle
  /-- A wait is in flight and polls TICK. -/
  | wPoll
  /-- A wait has seen its target reached and is about to stop the timer. -/
  | wStop
  /-- Head of STEP's loop. -/
  | sLoop
  /-- About to de-energize the coils and finish. -/
  | clear
  deriving DecidableEq, Repr

/-- RET: where control goes when the wait in flight ends (R25). -/
inductive Ret where
  | toIdle
  | toStep
  | toClear
  deriving DecidableEq, Repr

/-- DIRL: direction of the STEP in progress (R25). -/
inductive Dir where
  | cw
  | ccw
  deriving DecidableEq, Repr

/-- The two rate units (00_scope.md R5). -/
inductive RateUnit where
  | slow
  | fast
  deriving DecidableEq, Repr

/-- RATE: no prescale selected, or a rate unit (R26). -/
inductive Rate where
  | none
  | slow
  | fast
  deriving DecidableEq, Repr

/-- One completion of a command (30_encoding.md R71). A completion without a value leaves the response lines
meaningless (U13), so it carries none. -/
inductive Completion where
  /-- `respond()`: TMR_START, TMR_STOP, WAIT, STEP, STEP_INIT. -/
  | done
  /-- `respond(v)`: TICK_RD, BTN_RD, ENC_RD. -/
  | value (v : RspVal)
  deriving DecidableEq, Repr

/-- What the HOST does when its turn comes and the block is idle (60_exceptions.md R202). -/
inductive HostAct where
  /-- Present a word at the command port. -/
  | command (w : CmdWord)
  /-- The step GIE <- 0. -/
  | clearGie
  deriving DecidableEq, Repr

/-- Whose turn it is (00_scope.md R13). ENV has no step of its own: it answers PinRead. -/
inductive Turn where
  /-- The HOST's next action, if the block is ready; otherwise the HOST is held. -/
  | host
  /-- The SEQ agent's next micro-step, if a command is in progress. -/
  | seq
  /-- One compare-match of the timer: a TICK event if its guard holds, otherwise dropped. -/
  | tick
  /-- The reset input (70_reset_and_hazards.md R210). -/
  | reset
  deriving DecidableEq, Repr

/-- Why the block stops with a fault: it never does. The block raises no exception on any input (60_exceptions.md R180),
so the type has no constructor. Safe: nothing can be proved from a fault that cannot be. -/
inductive Fault where
  deriving DecidableEq, Repr

/-- Why the model gives a word no meaning (60_exceptions.md R181). Every refusal is safe: nothing is claimed of a run that
contains one. -/
inductive Refusal where
  /-- Raised by an arm of `exec` whose instruction has no meaning yet; no arm is. Safe. -/
  | notModelled (mnemonic : String)
  /-- Raised at acceptance: the presented word is not exactly 24 bits (20_memory.md R54). Safe. -/
  | wrongLength
  /-- Raised at acceptance: OP is 0x0 or 0x9 to 0xF (30_encoding.md R78(a)). Safe. -/
  | reservedOpcode
  /-- Raised at acceptance: Z is not 0000 (R78(b)). Safe. -/
  | reservedZ
  /-- Raised at acceptance: a fixed operand byte is not 0x00 (R78(c), (d)). Safe. -/
  | reservedOperand
  /-- Raised by TMR_START: its rate byte is neither SLOW nor FAST (R76, 40_timer.md R100). Safe. -/
  | rateOutOfContract
  deriving DecidableEq, Repr

/-- The machine. The first fourteen fields are the cells of 10_state.md R41; the rest is the interface and the order of
turns, which the model holds as data (log entries 1, 2, 3, 4, 10). -/
structure State where
  /-- SEQ (R21). -/
  seq : Seq
  /-- TICK (R22). -/
  tick : TickVal
  /-- RATE (R26). -/
  rate : Rate
  /-- CMP (R27). -/
  cmp : CmpVal
  /-- TIE (R28). -/
  tie : Bool
  /-- GIE (R29). -/
  gie : Bool
  /-- COIL (R23). -/
  coil : CoilBits
  /-- COILOUT (R30). -/
  coilOut : CoilBits
  /-- COIL_OE (R31). -/
  coilOe : CoilBits
  /-- ENC_PREV (R24). -/
  encPrev : EncSample
  /-- WTGT (R25). -/
  wtgt : Duration
  /-- RET (R25). -/
  ret : Ret
  /-- REM (R25). -/
  rem : StepCount
  /-- DIRL (R25). -/
  dirl : Dir
  /-- What the HOST has still to do, first first (R202, R203). -/
  hostQueue : List HostAct
  /-- The completions given so far, latest first (30_encoding.md R71). -/
  completions : List Completion
  /-- The button samples the environment draws next; none listed: the free value `Config.btnDraw` (R52). -/
  btnIn : List BtnSample
  /-- The encoder samples the environment draws next; none listed: the free value `Config.encDraw` (R52). -/
  encIn : List EncSample
  /-- How many free samples have been drawn. -/
  draws : Nat
  /-- The order in which the agents move next; none listed: the fair order of `Machine.fallbackTurn` (R13). -/
  turns : List Turn
  /-- A TICK event has occurred in the wait in flight and the SEQ agent has not yet moved since (41_wait.md R126). -/
  pollOwed : Bool
  deriving DecidableEq, Repr

/-- The machine right after reset (10_state.md R41). WTGT, RET, REM and DIRL are unspecified there and hold the values log
entry 5 names; the HOST has nothing to do, no sample and no turn is listed. -/
def State.reset : State where
  seq := .idle
  tick := 0
  rate := .none
  cmp := 0
  tie := false
  gie := false
  coil := Params.coilReset
  coilOut := 0b0000
  coilOe := 0b0000
  encPrev := Params.encReleased
  wtgt := 0
  ret := .toIdle
  rem := 0
  dirl := .cw
  hostQueue := []
  completions := []
  btnIn := []
  encIn := []
  draws := 0
  turns := []
  pollOwed := false

/-- What every meaning answers. -/
abbrev Result := Host.Outcome State Fault Refusal

end Sys2Proof.Machine
end

