-- ==== Sys2Proof/Machine/Operands.lean ====
section
/-! DEFINITION. Every operand form of the block: the rate byte, the direction byte, the two input ports, and the
decoding of an input sample into a result. -/

namespace Sys2Proof.Machine

/-- The rate unit a rate byte names, none when out of contract (30_encoding.md R75, R76). -/
def rateOf (r : RateByte) : Option RateUnit :=
  if r = Params.rateSlow then some .slow else if r = Params.rateFast then some .fast else none

/-- The direction a direction byte names: +1 is clockwise, -1 counterclockwise, any other takes no steps (R77). -/
def dirOf (d : DirByte) : Option Dir :=
  if d = Params.dirPlusOne then some .cw else if d = Params.dirMinusOne then some .ccw else none

/-- PinRead(BTN): the next sample, and the state once it is drawn (20_memory.md R52). -/
def pinReadBtn (s : State) : BtnSample × State :=
  match s.btnIn with
  | v :: rest => (v, { s with btnIn := rest })
  | [] => (Config.btnDraw s.draws, { s with draws := s.draws + 1 })

/-- PinRead(ENC): the next sample, and the state once it is drawn (R52). -/
def pinReadEnc (s : State) : EncSample × State :=
  match s.encIn with
  | v :: rest => (v, { s with encIn := rest })
  | [] => (Config.encDraw s.draws, { s with draws := s.draws + 1 })

/-- The button position of a sample: the highest pressed (low) line wins, 0 when none is pressed (43_inputs.md R160,
R161). -/
def btnPosition (v : BtnSample) : Nat :=
  if v.getLsbD 5 = false then 6
  else if v.getLsbD 4 = false then 5
  else if v.getLsbD 3 = false then 4
  else if v.getLsbD 2 = false then 3
  else if v.getLsbD 1 = false then 2
  else if v.getLsbD 0 = false then 1
  else 0

/-- The rotation an encoder sample reports after the previous one: only from "both released" (R164, R167). -/
def encRotation (prev cur : EncSample) : Int :=
  if prev = Params.encReleased ∧ cur = Params.encFirst then 1
  else if prev = Params.encReleased ∧ cur = Params.encSecond then -1
  else 0

/-- The response of BTN_RD: zext_RSP_W(p) (30_encoding.md R71). -/
def btnResponse (v : BtnSample) : RspVal := BitVec.ofNat Config.rspW (btnPosition v)

/-- The response of ENC_RD: sext_RSP_W(r) (R71). -/
def encResponse (prev cur : EncSample) : RspVal := BitVec.ofInt Config.rspW (encRotation prev cur)

end Sys2Proof.Machine
end

