-- ==== Sys2Proof/Machine/Flags.lean ====
section
/-! DEFINITION. The status of the block: BUSY, the interrupt's delivery conditions, and what the coil lines carry. The
block has no condition codes (10_state.md R33). -/

namespace Sys2Proof.Machine

/-- BUSY = (SEQ ≠ IDLE) (R33); the command port is ready exactly when it is false (30_encoding.md R70). -/
def State.busy (s : State) : Bool := s.seq ≠ .idle

/-- A wait is in flight exactly when SEQ is W_POLL or W_STOP (R34). -/
def State.inFlight (s : State) : Bool := s.seq = .wPoll ∨ s.seq = .wStop

/-- The guard of the TICK event: RATE ≠ NONE, TIE = 1 and GIE = 1 (40_timer.md R108, 60_exceptions.md R184). -/
def State.tickEnabled (s : State) : Bool := s.rate ≠ .none ∧ s.tie ∧ s.gie

/-- What the block drives on coil line `i`: COILOUT[i] in output mode, nothing otherwise (R30, R31). The level of a line
the block does not drive is not the block's (U9), so there is none to read. -/
def State.coilLine (s : State) (i : Fin 4) : Option Bool :=
  if s.coilOe.getLsbD i then some (s.coilOut.getLsbD i) else none

/-- The prescale divisor RATE selects; a parameter, not state (R26, 40_timer.md R102). -/
def State.divisor (s : State) : Option Nat :=
  match s.rate with
  | .none => none
  | .slow => some Config.divSlow
  | .fast => some Config.divFast

/-- The tick period RATE selects, in nominal milliseconds; no rule reads it (R102, 70_reset_and_hazards.md R229). -/
def State.period (s : State) : Option Rat :=
  match s.rate with
  | .none => none
  | .slow => some Config.periodSlow
  | .fast => some Config.periodFast

end Sys2Proof.Machine
end

