-- ==== Sys2Proof/Machine/Ops.lean ====
section
/-! DEFINITION. The shared operations of the block: arithmetic (00_scope.md R11), completions (30_encoding.md R71), the
coil port (20_memory.md R52), the timer driver's start and stop (40_timer.md R101, R104), the Blocking Wait as a
subroutine (41_wait.md R121), the interrupt (R108, 60_exceptions.md section 4) and reset (70_reset_and_hazards.md
R210). -/

namespace Sys2Proof.Machine

/-! ### Arithmetic (R11) -/

/-- `inc_W(v) = (v + 1) mod 2^W`. -/
def inc {w : Nat} (v : BitVec w) : BitVec w := v + 1

/-- `dec(v) = v - 1`, used only when v > 0. -/
def dec {w : Nat} (v : BitVec w) : BitVec w := v - 1

/-- `rotl4(v) = ((v << 1) | (v >> 3)) & 0xF`. -/
def rotl4 (v : CoilBits) : CoilBits := v <<< 1 ||| v >>> 3

/-- `rotr4(v) = ((v >> 1) | (v << 3)) & 0xF`. -/
def rotr4 (v : CoilBits) : CoilBits := v >>> 1 ||| v <<< 3

/-- One step of the phase rotator in a direction (42_stepper.md R147). -/
def rotate (d : Dir) (c : CoilBits) : CoilBits :=
  match d with
  | .cw => rotl4 c
  | .ccw => rotr4 c

/-- A poll goes on while the counter is less than the duration, compared as naturals at any two widths (R8, 41_wait.md
R123). -/
def pollGoesOn {tw dw : Nat} (t : BitVec tw) (d : BitVec dw) : Bool := t.toNat < d.toNat

/-! ### Completions and the coil port -/

/-- `respond()`: end the command with no value. -/
def respond (s : State) : State := { s with completions := .done :: s.completions }

/-- `respond(v)`: end the command with a value. -/
def respondValue (v : RspVal) (s : State) : State := { s with completions := .value v :: s.completions }

/-- PinWrite(COIL_PORT, v): COILOUT <- v, and nothing else (20_memory.md R52). -/
def pinWriteCoil (v : CoilBits) (s : State) : State := { s with coilOut := v }

/-! ### The timer driver -/

/-- The value of RATE that selects a rate unit (10_state.md R26). -/
def RateUnit.sel : RateUnit → Rate
  | .slow => .slow
  | .fast => .fast

/-- CMP_u, the comparison threshold of a rate unit (R27). -/
def RateUnit.threshold : RateUnit → CmpVal
  | .slow => Config.cmpSlow
  | .fast => Config.cmpFast

/-- `do_start(u)` (40_timer.md R101): five writes in one indivisible step. -/
def doStart (u : RateUnit) (s : State) : State :=
  { s with tick := 0, rate := u.sel, cmp := u.threshold, tie := true, gie := true }

/-- `do_stop()` (R104): TICK and GIE keep their values. -/
def doStop (s : State) : State := { s with tie := false, cmp := 0, rate := .none }

/-! ### The Blocking Wait (41_wait.md R121) -/

/-- `cont(ret)`: where control goes when a wait ends. -/
def cont (r : Ret) (s : State) : State :=
  match r with
  | .toIdle => { respond s with seq := .idle }
  | .toStep => { s with seq := .sLoop }
  | .toClear => { s with seq := .clear }

/-- The part of `call_wait` for d ≥ 1: start the timer at SLOW and go to W_POLL. -/
def beginWait (d : Duration) (r : Ret) (s : State) : State :=
  { doStart .slow s with wtgt := d, ret := r, seq := .wPoll }

/-- `call_wait(d, ret)`: a duration of 0 neither starts nor stops the timer (R122). -/
def callWait (d : Duration) (r : Ret) (s : State) : State :=
  if d = 0 then cont r s else beginWait d r s

/-! ### The interrupt (40_timer.md R108, 60_exceptions.md R190 to R193) -/

/-- Taking the one interrupt: the handler is the single increment; nothing is saved, no mask and no mode changes (R190). -/
def takeTick (s : State) : State := { s with tick := inc s.tick }

/-- Returning from it: nothing was saved, so nothing is restored (R192). -/
def returnFromTick (s : State) : State := s

/-- A compare-match: taken and returned from in one indivisible step when delivery is enabled, dropped and not
remembered otherwise (R108, 10_state.md R35). -/
def compareMatch (s : State) : State :=
  if s.tickEnabled then returnFromTick (takeTick s) else s

/-! ### Reset -/

/-- The reset input: every cell to its value of 10_state.md R41, a command in progress abandoned without a completion
(70_reset_and_hazards.md R212). What lies outside the block (the HOST's queue, the samples, the order of turns, the
completions already given) is not the block's to reset (log entry 12). -/
def resetCells (s : State) : State :=
  { State.reset with
    hostQueue := s.hostQueue, completions := s.completions, btnIn := s.btnIn, encIn := s.encIn,
    draws := s.draws, turns := s.turns }

end Sys2Proof.Machine
end

