-- ==== Sys2Proof/Machine/Inputs.lean ====
section
/-! DEFINITION. The digital input readers (43_inputs.md): BTN_RD and ENC_RD. -/

namespace Sys2Proof.Machine

/-- BTN_RD (R160): one sample of the button port, no state written. -/
def execBtnRd (s : State) : Result :=
  let r := pinReadBtn s
  .next (respondValue (btnResponse r.1) r.2)

/-- ENC_RD (R164): one sample of the encoder port; ENC_PREV takes it unconditionally. -/
def execEncRd (s : State) : Result :=
  let r := pinReadEnc s
  .next (respondValue (encResponse s.encPrev r.1) { r.2 with encPrev := r.1 })

end Sys2Proof.Machine
end

