-- ==== Sys2Proof/Machine/Stepper.lean ====
section
/-! DEFINITION. The stepper phase sequencer (42_stepper.md): the acceptance steps of STEP and STEP_INIT and the
micro-steps S_LOOP and CLEAR. -/

namespace Sys2Proof.Machine

/-- STEP n, dir (R141): latch the operands and go to the loop, or, for a direction that is not ±1, straight to CLEAR
(R142). -/
def execStep (n : StepCount) (direction : DirByte) (s : State) : Result :=
  match dirOf direction with
  | some d => .next { s with dirl := d, rem := n, seq := .sLoop }
  | none => .next { s with seq := .clear }

/-- S_LOOP (R143): done, or advance the coil, drive it, count down and wait SETTLE_TICKS. -/
def sLoopStep (s : State) : State :=
  if s.rem = 0 then { s with seq := .clear }
  else
    let c := rotate s.dirl s.coil
    callWait Params.settleTicks .toStep (pinWriteCoil c { s with coil := c, rem := dec s.rem })

/-- CLEAR (R144): de-energize, respond, idle. -/
def clearStep (s : State) : State := { respond (pinWriteCoil Params.coilsCleared s) with seq := .idle }

/-- STEP_INIT's acceptance step at any values of its three parameters (R150, R151). -/
def stepInitWith (p : Config.StepInitParams) (s : State) : State :=
  callWait p.initWaitTicks .toClear
    (pinWriteCoil p.restPattern
      { s with coilOe := Params.coilOeAll, coil := if p.initResetsCoil then Params.coilReset else s.coil })

/-- STEP_INIT (R150), at the configuration's values of its parameters. -/
def execStepInit (s : State) : Result := .next (stepInitWith Config.stepInit s)

end Sys2Proof.Machine
end

