-- ==== Sys2Proof/Machine/Timer.lean ====
section
/-! DEFINITION. The timer driver's commands (40_timer.md): TMR_START, TMR_STOP, TICK_RD. Each meaning is its command's
acceptance step; the guard SEQ = IDLE is the command port's (30_encoding.md R74, Machine/Schedule.lean). -/

namespace Sys2Proof.Machine

/-- TMR_START r (R100): start the timer at the rate unit; a rate byte above 0x01 is refused by name (R76). -/
def execTmrStart (rate : RateByte) (s : State) : Result :=
  match rateOf rate with
  | some u => .next (respond (doStart u s))
  | none => .refused .rateOutOfContract

/-- TMR_STOP (R103). -/
def execTmrStop (s : State) : Result := .next (respond (doStop s))

/-- TICK_RD (R106): respond with zext_RSP_W(TICK), no state written. -/
def execTickRd (s : State) : Result := .next (respondValue (s.tick.setWidth Config.rspW) s)

end Sys2Proof.Machine
end

