-- ==== Sys2Proof/Machine/Wait.lean ====
section
/-! DEFINITION. The Blocking Wait (41_wait.md): WAIT's acceptance step and the micro-steps W_POLL and W_STOP. -/

namespace Sys2Proof.Machine

/-- WAIT d (R120): `call_wait(d, TO_IDLE)`. -/
def execWait (d : Duration) (s : State) : Result := .next (callWait d .toIdle s)

/-- W_POLL (R123): one poll of the counter; equality ends the loop. -/
def wPollStep (s : State) : State :=
  { s with seq := if pollGoesOn s.tick s.wtgt then .wPoll else .wStop }

/-- W_STOP (R124): stop the timer, then go where RET says. -/
def wStopStep (s : State) : State := cont s.ret (doStop s)

end Sys2Proof.Machine
end

