-- ==== Sys2Proof/Machine/Dispatch.lean ====
section
/-! DEFINITION. One arm per command: the acceptance step of the command's rule (30_encoding.md R74). -/

namespace Sys2Proof.Machine

def exec (i : Instr) (s : State) : Host.Outcome State Fault Refusal :=
  match i with
  | .tmrStart rate => Sys2Proof.Machine.execTmrStart rate s
  | .tmrStop => Sys2Proof.Machine.execTmrStop s
  | .tickRd => Sys2Proof.Machine.execTickRd s
  | .wait duration => Sys2Proof.Machine.execWait duration s
  | .step numSteps direction => Sys2Proof.Machine.execStep numSteps direction s
  | .stepInit => Sys2Proof.Machine.execStepInit s
  | .btnRd => Sys2Proof.Machine.execBtnRd s
  | .encRd => Sys2Proof.Machine.execEncRd s

end Sys2Proof.Machine
end

