-- ==== Sys2Proof/Machine/Schedule.lean ====
section
/-! DEFINITION. The agents of 00_scope.md R13 and their turns: the command port (30_encoding.md R70, R74), the
micro-sequencer (60_exceptions.md R201), the compare-match (40_timer.md R108) and reset, and which of them moves next. -/

namespace Sys2Proof.Machine

/-! ### What each agent does in its turn -/

/-- The refusal a decoder's reason stands for (60_exceptions.md R181). -/
def refusalOf : DecodeError → Refusal
  | .wrongLength => .wrongLength
  | .reservedOpcode => .reservedOpcode
  | .reservedZ => .reservedZ
  | .reservedOperand => .reservedOperand

/-- Acceptance of a presented word (30_encoding.md R74): decode, then the command's acceptance step. -/
def accept (w : CmdWord) (s : State) : Result :=
  match decodeWord w with
  | .ok i => exec i s
  | .error e => .refused (refusalOf e)

/-- The HOST's turn: held while the block is busy (R70); otherwise its next action, if any (60_exceptions.md R202). -/
def hostTurn (s : State) : Result :=
  if s.busy then .next s
  else
    match s.hostQueue with
    | [] => .next s
    | .clearGie :: rest => .next { s with hostQueue := rest, gie := false }
    | .command w :: rest => accept w { s with hostQueue := rest }

/-- The SEQ agent's micro-step (R201); in IDLE it has none. -/
def seqStep (s : State) : State :=
  match s.seq with
  | .idle => s
  | .wPoll => wPollStep s
  | .wStop => wStopStep s
  | .sLoop => sLoopStep s
  | .clear => clearStep s

/-- The SEQ agent's turn: its micro-step, after which no poll is owed (41_wait.md R126). -/
def seqTurn (s : State) : State := { seqStep s with pollOwed := false }

/-- The timer's turn: one compare-match (40_timer.md R108). A TICK event inside a wait leaves a poll owed before the
next one (41_wait.md R126). -/
def tickTurn (s : State) : State :=
  if s.tickEnabled then { compareMatch s with pollOwed := s.inFlight } else compareMatch s

/-! ### Which agent moves next -/

/-- No TICK event may occur now: one has occurred in the wait in flight and the SEQ agent has not moved since (41_wait.md
R126). -/
def State.mustPoll (s : State) : Bool := s.inFlight && s.tickEnabled && s.pollOwed

/-- The turn taken when none is listed: one of the orders R13 allows, and a fair one (40_timer.md R109, 41_wait.md R127).
Idle, the HOST acts while it has something to do and compare-matches come after; in a wait, ticks and polls alternate;
otherwise the SEQ agent moves (log entry 2). -/
def fallbackTurn (s : State) : Turn :=
  match s.seq with
  | .idle => if s.hostQueue.isEmpty then .tick else .host
  | .wPoll => if s.tickEnabled && !s.pollOwed then .tick else .seq
  | .wStop => .seq
  | .sLoop => .seq
  | .clear => .seq

/-- The turn to take, and the turns left after it. A listed compare-match that R126 does not yet allow stays listed while
the SEQ agent moves, so no event is lost (40_timer.md R109, log entry 3). -/
def nextTurn (s : State) : Turn × List Turn :=
  match s.turns with
  | [] => (fallbackTurn s, [])
  | .tick :: rest => if s.mustPoll then (.seq, .tick :: rest) else (.tick, rest)
  | .host :: rest => (.host, rest)
  | .seq :: rest => (.seq, rest)
  | .reset :: rest => (.reset, rest)

/-- Take a turn. -/
def runTurn (t : Turn) (s : State) : Result :=
  match t with
  | .host => hostTurn s
  | .seq => .next (seqTurn s)
  | .tick => .next (tickTurn s)
  | .reset => .next (resetCells s)

/-- One indivisible step of the block: the next agent's turn (20_memory.md R60). -/
def oneStep (s : State) : Result :=
  runTurn (nextTurn s).1 { s with turns := (nextTurn s).2 }

end Sys2Proof.Machine
end

