-- ==== Sys2Proof/Machine/Step.lean ====
section
/-! DEFINITION. One step of the machine, and how the host's probe places a command where the next step takes one. -/

namespace Sys2Proof.Machine

/-- One indivisible step (00_scope.md R13, 20_memory.md R60). -/
def step (s : State) : Host.Outcome State Fault Refusal := oneStep s

/-- The block idle, the word at the head of the HOST's queue, and the HOST's turn next: all that it takes for the very
next step to accept exactly this word (30_encoding.md R74, log entry 1). -/
def State.withFetchWord (s : State) (nbits w : Nat) : State :=
  { s with
    seq := .idle
    hostQueue := .command (tableWord nbits w) :: s.hostQueue
    turns := .host :: s.turns }

end Sys2Proof.Machine
end

