-- ==== Sys2Proof/Safety.lean ====
section
/-! DEFINITION. The terms in which claims about the block are stated: its invariants (10_state.md R38 to R40, 41_wait.md
R125 and R126, 70_reset_and_hazards.md R225), what the HOST presents, what words are reserved, and runs of one command
from its acceptance to its completion. -/

namespace Sys2Proof.Safety

open Sys2Proof.Machine

/-! ### The invariant -/

/-- COIL is one of 0001, 0010, 0100, 1000 (R38). -/
abbrev CoilOneHot (s : State) : Prop :=
  s.coil = 0b0001 ∨ s.coil = 0b0010 ∨ s.coil = 0b0100 ∨ s.coil = 0b1000

/-- RATE, CMP and TIE move together (R39): stopped, they are NONE, 0 and 0; started, a rate unit, its threshold and 1. -/
abbrev TimerCellsTogether (s : State) : Prop :=
  (s.rate = .none ∧ s.cmp = 0 ∧ s.tie = false) ∨
  (s.rate = .slow ∧ s.cmp = Config.cmpSlow ∧ s.tie = true) ∨
  (s.rate = .fast ∧ s.cmp = Config.cmpFast ∧ s.tie = true)

/-- While a wait is in flight the timer runs at SLOW with delivery enabled (R40). -/
abbrev WaitHasTheTimer (s : State) : Prop :=
  s.inFlight = true → s.rate = .slow ∧ s.cmp = Config.cmpSlow ∧ s.tie = true ∧ s.gie = true

/-- How far the counter can be inside a wait of d ticks (R125, R126, R130): polling, it is at most d, and at d only
if no poll has yet seen it; about to stop, it is d, or one more if an event came after the last poll. -/
abbrev CounterWithinWait (s : State) : Prop :=
  (s.seq = .wPoll → s.wtgt ≠ 0 ∧
    (s.tick.toNat < s.wtgt.toNat ∨ s.tick.toNat = s.wtgt.toNat ∧ s.pollOwed = true)) ∧
  (s.seq = .wStop → s.wtgt ≠ 0 ∧
    (s.tick.toNat = s.wtgt.toNat ∨
      s.tick.toNat = (s.wtgt.toNat + 1) % 2 ^ 16 ∧ s.pollOwed = true))

/-- The coil lines are de-energized between commands and during a WAIT (R225). -/
abbrev CoilsRestOutsideStepping (s : State) : Prop :=
  (s.seq = .idle → s.coilOut = 0) ∧ (s.inFlight = true → s.ret = .toIdle → s.coilOut = 0)

/-- A poll is owed only inside a wait. -/
abbrev PollOwedOnlyInWait (s : State) : Prop := s.pollOwed = true → s.inFlight = true

/-- The invariant of the block. -/
structure BlockInv (s : State) : Prop where
  coilOneHot : CoilOneHot s
  timerCellsTogether : TimerCellsTogether s
  waitHasTheTimer : WaitHasTheTimer s
  counterWithinWait : CounterWithinWait s
  coilsRest : CoilsRestOutsideStepping s
  pollOwedOnlyInWait : PollOwedOnlyInWait s

/-! ### What the HOST presents -/

/-- The HOST's turn is next and it presents the word `w` to the idle block; `q` and `ts` are the HOST's actions and the
turns left after it (30_encoding.md R70, R74). -/
def Presents (s : State) (w : CmdWord) (q : List HostAct) (ts : List Turn) : Prop :=
  s.seq = .idle ∧ s.hostQueue = .command w :: q ∧ (s.turns = .host :: ts ∨ s.turns = [] ∧ ts = [])

/-- The state in which a presented word is accepted. -/
def afterFetch (s : State) (q : List HostAct) (ts : List Turn) : State :=
  { s with hostQueue := q, turns := ts }

/-- The reserved words of R78, by arithmetic on the word's value: (a) the opcode, (b) Z, (c) format N's operand bytes,
(d) format R's first operand byte. -/
def ReservedWord (w : CmdBits) : Prop :=
  let op := w.toNat / 2 ^ 20
  let z := w.toNat / 2 ^ 16 % 16
  let a := w.toNat / 2 ^ 8 % 256
  let b := w.toNat % 256
  op = 0 ∨ 9 ≤ op ∨ z ≠ 0 ∨
    ((op = 2 ∨ op = 3 ∨ op = 6 ∨ op = 7 ∨ op = 8) ∧ (a ≠ 0 ∨ b ≠ 0)) ∨
    (op = 1 ∧ a ≠ 0)

/-! ### Control transfers -/

/-- The rows of R201 that leave IDLE: which accepted command enters which micro-state, and with which RET. -/
def LeavesIdleBy (i : Instr) (t : State) : Prop :=
  (∃ d, i = .wait d ∧ d ≠ 0 ∧ t.seq = .wPoll ∧ t.ret = .toIdle) ∨
  (∃ n b, i = .step n b ∧ (b = 0x01 ∨ b = 0xFF) ∧ t.seq = .sLoop) ∨
  (∃ n b, i = .step n b ∧ b ≠ 0x01 ∧ b ≠ 0xFF ∧ t.seq = .clear) ∨
  (i = .stepInit ∧ Config.stepInit.initWaitTicks ≠ 0 ∧ t.seq = .wPoll ∧ t.ret = .toClear) ∨
  (i = .stepInit ∧ Config.stepInit.initWaitTicks = 0 ∧ t.seq = .clear)

/-! ### Inputs -/

/-- `p` is the position a button sample reports (43_inputs.md R161): one more than the highest pressed index, or 0. -/
def IsPosition (v : BtnSample) (p : Nat) : Prop :=
  (p = 0 ∧ ∀ i : Fin 6, v.getLsbD i = true) ∨
  ∃ i : Fin 6, p = i.val + 1 ∧ v.getLsbD i = false ∧ ∀ j : Fin 6, i < j → v.getLsbD j = true

/-! ### Runs of one command -/

/-- `k` steps lead from `s` to `t`, and the block is busy before each of them: the command in progress at `s` is the one
whose end `t` may be. -/
def BusyRun : Nat → State → State → Prop
  | 0, s, t => s = t
  | k + 1, s, t => s.busy = true ∧ ∃ u, step s = .next u ∧ BusyRun k u t

/-- A TICK event is the next step: the timer's turn, with the event's guard true (40_timer.md R108). -/
def ticksNow (s : State) : Bool := (nextTurn s).1 = .tick && s.tickEnabled

/-- How many of the next `k` steps are TICK events. -/
def tickEvents : Nat → State → Nat
  | 0, _ => 0
  | k + 1, s =>
    (if ticksNow s then 1 else 0) +
      match step s with
      | .next u => tickEvents k u
      | .fault _ => 0
      | .refused _ => 0

/-- `n` steps of the phase rotator. -/
def rotateBy (d : Dir) : Nat → CoilBits → CoilBits
  | 0, c => c
  | n + 1, c => rotateBy d n (rotate d c)

/-- The timer is stopped: RATE = NONE, CMP = 0, TIE = 0. -/
abbrev TimerStopped (s : State) : Prop := s.rate = .none ∧ s.cmp = 0 ∧ s.tie = false

end Sys2Proof.Safety
end

