-- ==== Sys2Proof/Certificates/Slice0/Obligations.lean ====
section
/-! DEFINITION. The statements for the provers: what each command, each micro-step and the one interrupt do, what a step
is, and what holds of every step and of every run of a command. Next states are written out cell by cell, so that each
statement is also its frame: a cell not named keeps its value. -/

open Sys2Proof Sys2Proof.Machine Sys2Proof.Safety

/-! ### Encoding (30_encoding.md) -/

/-- R72, R73, R75: the word of every command, presented at the port, decodes to that command, with every operand at
every value. -/
def Obligations.DecodeOfEncodeIsIdentity : Prop :=
  ∀ i : Instr, decodeWord (encodeWord i) = .ok i ∧ decode (encode i) = .ok i

/-- R72, R75: each word that decodes has one meaning, and no bit of it is dropped. -/
def Obligations.EncodeOfDecodeIsIdentity : Prop :=
  ∀ (w : CmdBits) (i : Instr), decode w = .ok i → encode i = w

/-- R73: a word decodes to a command of a row exactly when it selects the row by its match and mask, and at most one row
matches any word. -/
def Obligations.DecodeSelectsByMatchAndMask : Prop :=
  ∀ w : CmdBits,
    (∀ r ∈ opcodeRows, w &&& r.mask = r.bits ↔ ∃ i, decode w = .ok i ∧ i.mnemonic = r.mnemonic) ∧
    (∀ r ∈ opcodeRows, ∀ r' ∈ opcodeRows, w &&& r.mask = r.bits → w &&& r'.mask = r'.bits → r = r')

/-- R73, R74, R78: the words the decoder refuses are exactly the reserved ones. That every other 24-bit word decodes is the
model's reading for the 254 TMR_START words with an out-of-contract rate (R76): they decode, and the command's own meaning
refuses them (log entry 23, DEDUCED). -/
def Obligations.DecoderRefusesExactlyReservedWords : Prop :=
  ∀ w : CmdBits,
    (ReservedWord w ↔ ∃ e, decode w = .error e) ∧ (¬ReservedWord w ↔ ∃ i, decode w = .ok i)

/-- R78, R182: a reserved word presented to the idle block is refused by name. -/
def Obligations.ReservedWordIsRefusedByName : Prop :=
  ∀ (s : State) (w : CmdBits) (q : List HostAct) (ts : List Turn),
    Presents s { width := 24, bits := w.toNat } q ts → ReservedWord w →
      step s = .refused .reservedOpcode ∨ step s = .refused .reservedZ ∨ step s = .refused .reservedOperand

/-- R54: a shorter or longer word is refused by name. -/
def Obligations.WrongLengthWordIsRefused : Prop :=
  ∀ (s : State) (w : CmdWord) (q : List HostAct) (ts : List Turn),
    Presents s w q ts → (w.width ≠ 24 ∨ 2 ^ 24 ≤ w.bits) → step s = .refused .wrongLength

/-- R76: TMR_START with a rate byte in 0x02 to 0xFF is refused by name, whatever the state. -/
def Obligations.OutOfContractRateIsRefused : Prop :=
  ∀ (s : State) (q : List HostAct) (ts : List Turn) (b : RateByte), 2 ≤ b.toNat →
    exec (.tmrStart b) s = .refused .rateOutOfContract ∧
    (Presents s { width := 24, bits := 0x100000 + b.toNat } q ts → step s = .refused .rateOutOfContract)

/-- R84: worked encodings of every command decode to the command they stand for, and the refused examples are refused. -/
def Obligations.WorkedEncodingsDecode : Prop :=
  decode 0x100000 = .ok (.tmrStart 0x00) ∧ decode 0x100001 = .ok (.tmrStart 0x01) ∧
  decode 0x200000 = .ok .tmrStop ∧ decode 0x300000 = .ok .tickRd ∧
  decode 0x4003E8 = .ok (.wait 1000) ∧ decode 0x40FFFF = .ok (.wait 65535) ∧
  decode 0x500401 = .ok (.step 4 0x01) ∧ decode 0x5004FF = .ok (.step 4 0xFF) ∧
  decode 0x600000 = .ok .stepInit ∧ decode 0x700000 = .ok .btnRd ∧ decode 0x800000 = .ok .encRd ∧
  decode 0x000000 = .error .reservedOpcode ∧ decode 0x210000 = .error .reservedZ ∧
  decode 0x200001 = .error .reservedOperand

/-! ### What a step is -/

/-- R74: when the HOST's turn presents a word that decodes to a command to the idle block, the step is that command's
acceptance step in the state with the word taken. How a word and a turn stand in State is the model's (log entry 1). -/
def Obligations.StepRunsThePresentedCommand : Prop :=
  ∀ (s : State) (w : CmdWord) (q : List HostAct) (ts : List Turn) (i : Instr),
    Presents s w q ts → decodeWord w = .ok i → step s = exec i (afterFetch s q ts)

/-- R13: a listed turn of each agent is that agent's step; a compare-match that R126 does not yet allow waits while the
SEQ agent moves. The list of turns is the model's (log entries 1 and 3). -/
def Obligations.StepTakesTheListedTurn : Prop :=
  ∀ (s : State) (ts : List Turn),
    (s.turns = .host :: ts → step s = hostTurn { s with turns := ts }) ∧
    (s.turns = .seq :: ts → step s = .next { seqStep { s with turns := ts } with pollOwed := false }) ∧
    (s.turns = .tick :: ts → s.mustPoll = false → s.tickEnabled = true →
      step s = .next { compareMatch { s with turns := ts } with pollOwed := s.inFlight }) ∧
    (s.turns = .tick :: ts → s.tickEnabled = false → step s = .next { s with turns := ts }) ∧
    (s.turns = .tick :: ts → s.mustPoll = true → step s = .next { seqStep s with pollOwed := false }) ∧
    (s.turns = .reset :: ts → step s = .next (resetCells { s with turns := ts }))

/-- R70: while the block is not ready the HOST is held: its turn changes nothing and its actions stay queued. -/
def Obligations.BusyBlockHoldsTheHost : Prop :=
  ∀ s : State, s.seq ≠ .idle → hostTurn s = .next s

/-- R202: the HOST's step GIE <- 0, taken while SEQ = IDLE, changes GIE alone. -/
def Obligations.HostClearsGieWhenIdle : Prop :=
  ∀ (s : State) (q : List HostAct), s.seq = .idle → s.hostQueue = .clearGie :: q →
    hostTurn s = .next { s with hostQueue := q, gie := false }

/-! ### Timer driver (40_timer.md) -/

/-- R100, R101: the word of TMR_START r is 0x100000 | r; TMR_START SLOW and TMR_START FAST zero TICK, write RATE, CMP, TIE
and GIE, respond with no value, and change nothing else, in every state; any other rate byte is refused. -/
def Obligations.TmrStartStartsTheTimer : Prop :=
  (∀ r : RateByte, (encode (.tmrStart r)).toNat = 0x100000 + r.toNat) ∧
  (∀ (r : RateByte) (s : State), 2 ≤ r.toNat → exec (.tmrStart r) s = .refused .rateOutOfContract) ∧
  ∀ s : State,
    exec (.tmrStart 0x00) s = .next { s with
      tick := 0, rate := .slow, cmp := Config.cmpSlow, tie := true, gie := true,
      completions := .done :: s.completions } ∧
    exec (.tmrStart 0x01) s = .next { s with
      tick := 0, rate := .fast, cmp := Config.cmpFast, tie := true, gie := true,
      completions := .done :: s.completions }

/-- R103, R104: the word of TMR_STOP is 0x200000; it writes TIE, CMP and RATE, keeps TICK and GIE, and responds with no
value. -/
def Obligations.TmrStopStopsTheTimer : Prop :=
  encode .tmrStop = 0x200000 ∧
  ∀ s : State, exec .tmrStop s = .next { s with
    tie := false, cmp := 0, rate := .none, completions := .done :: s.completions }

/-- R105: stopping twice leaves the same state as stopping once, and after a stop no TICK event is enabled. -/
def Obligations.StopIsIdempotent : Prop :=
  ∀ s : State, doStop (doStop s) = doStop s ∧ (doStop s).tickEnabled = false ∧ (doStop s).tick = s.tick

/-- R106: the word of TICK_RD is 0x300000; it responds with the counter and writes no state. -/
def Obligations.TickRdReturnsTheCounter : Prop :=
  encode .tickRd = 0x300000 ∧
  ∀ s : State, ∃ v : RspVal, v.toNat = s.tick.toNat ∧
    exec .tickRd s = .next { s with completions := .value v :: s.completions }

/-- R108, R110: a compare-match with RATE ≠ NONE, TIE = 1 and GIE = 1 adds one to TICK modulo 2^16 and touches nothing
else; with the guard false it has no step. -/
def Obligations.CompareMatchIncrementsTickOnly : Prop :=
  ∀ s : State,
    (s.rate ≠ .none ∧ s.tie = true ∧ s.gie = true →
      compareMatch s = { s with tick := BitVec.ofNat 16 ((s.tick.toNat + 1) % 2 ^ 16) }) ∧
    (¬(s.rate ≠ .none ∧ s.tie = true ∧ s.gie = true) → compareMatch s = s)

/-- R190, R192: taking the interrupt and returning from it saves nothing, restores nothing and changes TICK alone. -/
def Obligations.InterruptSavesAndRestoresNothing : Prop :=
  ∀ s : State, returnFromTick (takeTick s) = { s with tick := s.tick + 1 }

/-- R22, R107: in every step TICK keeps its value, is zeroed, or is incremented by a TICK event whose guard holds; no
command writes it to a value other than 0. -/
def Obligations.TickIsKeptZeroedOrIncremented : Prop :=
  ∀ s t : State, step s = .next t →
    t.tick = s.tick ∨ t.tick = 0 ∨
      (t.tick = s.tick + 1 ∧ s.rate ≠ .none ∧ s.tie = true ∧ s.gie = true ∧ t.seq = s.seq)

/-! ### Blocking wait (41_wait.md) -/

/-- R122: WAIT 0 responds in its acceptance step and writes no state at all; a call of the wait with duration 0 goes
straight where its caller asks, whichever that is, and writes nothing but SEQ. -/
def Obligations.WaitZeroWritesNoState : Prop :=
  ∀ s : State,
    (s.seq = .idle → exec (.wait 0) s = .next { s with completions := .done :: s.completions }) ∧
    callWait 0 .toIdle s = { s with completions := .done :: s.completions, seq := .idle } ∧
    callWait 0 .toStep s = { s with seq := .sLoop } ∧
    callWait 0 .toClear s = { s with seq := .clear }

/-- R121: WAIT d for d ≥ 1 starts the timer at SLOW, latches the duration and the continuation, and goes to W_POLL
without responding. -/
def Obligations.WaitStartsTheTimerAtSlow : Prop :=
  ∀ (s : State) (d : Duration), d ≠ 0 → exec (.wait d) s = .next { s with
    tick := 0, rate := .slow, cmp := Config.cmpSlow, tie := true, gie := true,
    wtgt := d, ret := .toIdle, seq := .wPoll }

/-- R123: W_POLL stays while TICK < WTGT as naturals and goes to W_STOP otherwise; it writes nothing but SEQ. -/
def Obligations.PollComparesTheCounter : Prop :=
  ∀ s : State, s.seq = .wPoll →
    (s.tick.toNat < s.wtgt.toNat → seqStep s = s) ∧
    (¬s.tick.toNat < s.wtgt.toNat → seqStep s = { s with seq := .wStop })

/-- R124: W_STOP stops the timer and goes where RET says, responding only on TO_IDLE. -/
def Obligations.StopStepReturnsWhereRetSays : Prop :=
  ∀ s : State, s.seq = .wStop →
    (s.ret = .toIdle → seqStep s = { s with
      tie := false, cmp := 0, rate := .none, seq := .idle, completions := .done :: s.completions }) ∧
    (s.ret = .toStep → seqStep s = { s with tie := false, cmp := 0, rate := .none, seq := .sLoop }) ∧
    (s.ret = .toClear → seqStep s = { s with tie := false, cmp := 0, rate := .none, seq := .clear })

/-- R126: inside a wait, a TICK event leaves a poll owed, and comes only when none is; while one is owed TICK does not change,
and it stops being owed only by a step of the SEQ agent: any other step changes nothing but the list of turns. The bit is
the model's form of R126 (log entry 3). -/
def Obligations.SeqMovesBetweenTwoTicksOfAWait : Prop :=
  ∀ s t : State, BlockInv s → s.inFlight = true → s.turns.head? ≠ some .reset → step s = .next t →
    (ticksNow s = true → s.pollOwed = false ∧ t.pollOwed = true ∧ t.tick = s.tick + 1) ∧
    (s.pollOwed = true →
      t.tick = s.tick ∧
      (t.pollOwed = true → t = { s with turns := s.turns.tail }) ∧
      (t.pollOwed = false → t = seqTurn { s with turns := (nextTurn s).2 }))

/-- R123, R128(b): at every two widths a poll goes on exactly while the counter is less than the duration as naturals; so
for a duration the counter cannot represent every poll goes on. -/
def Obligations.PollComparesAsNaturalsAtAllWidths : Prop :=
  ∀ (tw dw : Nat) (t : BitVec tw) (d : BitVec dw),
    (pollGoesOn t d = true ↔ t.toNat < d.toNat) ∧ (2 ^ tw ≤ d.toNat → pollGoesOn t d = true)

/-- R125, R126, R130: from any idle state, however the turns fall, a WAIT d with d ≥ 1 that runs to
its end without a reset has seen d or d + 1 TICK events, and ends idle with that count in TICK modulo 2^16, the timer
stopped, GIE set, one completion given and every other cell as it was. -/
def Obligations.WaitEndsAfterItsDuration : Prop :=
  ∀ (s s' t : State) (d : Duration) (k : Nat), s.seq = .idle → d ≠ 0 → Turn.reset ∉ s.turns →
    exec (.wait d) s = .next s' → BusyRun k s' t → t.seq = .idle →
      (tickEvents k s' = d.toNat ∨ tickEvents k s' = d.toNat + 1) ∧
      t.tick.toNat = tickEvents k s' % 2 ^ 16 ∧
      t.rate = .none ∧ t.cmp = 0 ∧ t.tie = false ∧ t.gie = true ∧ t.wtgt = d ∧ t.ret = .toIdle ∧
      t.completions = .done :: s.completions ∧
      t.coil = s.coil ∧ t.coilOut = s.coilOut ∧ t.coilOe = s.coilOe ∧ t.encPrev = s.encPrev ∧
      t.rem = s.rem ∧ t.dirl = s.dirl ∧ t.hostQueue = s.hostQueue ∧
      t.btnIn = s.btnIn ∧ t.encIn = s.encIn ∧ t.draws = s.draws

/-- R127: from every busy state that meets the invariant, whatever finite list of turns stands in it, the command in
progress runs to its end if no reset comes. Fairness is the model's order of unlisted turns (log entry 2). -/
def Obligations.EveryCommandInProgressEnds : Prop :=
  ∀ s : State, BlockInv s → s.seq ≠ .idle → Turn.reset ∉ s.turns → ∃ (k : Nat) (t : State), BusyRun k s t ∧ t.seq = .idle

/-! ### Stepper (42_stepper.md) -/

/-- R147: the rotator's eight transitions, four steps are one cycle, and one step each way cancels. -/
def Obligations.RotatorFollowsTheTable : Prop :=
  (rotate .cw 0b0001 = 0b0010 ∧ rotate .cw 0b0010 = 0b0100 ∧ rotate .cw 0b0100 = 0b1000 ∧ rotate .cw 0b1000 = 0b0001) ∧
  (rotate .ccw 0b0001 = 0b1000 ∧ rotate .ccw 0b0010 = 0b0001 ∧ rotate .ccw 0b0100 = 0b0010 ∧
    rotate .ccw 0b1000 = 0b0100) ∧
  (∀ (d : Dir) (c : CoilBits), rotate d (rotate d (rotate d (rotate d c))) = c) ∧
  (∀ c : CoilBits, rotate .ccw (rotate .cw c) = c ∧ rotate .cw (rotate .ccw c) = c)

/-- R141: STEP's acceptance step latches the direction and the count and goes to S_LOOP; any other direction goes straight
to CLEAR (R142); no pin and no timer cell is written, and no count is refused (R146). -/
def Obligations.StepAcceptanceLatchesItsOperands : Prop :=
  ∀ (s : State) (n : StepCount) (b : DirByte),
    (b = 0x01 → exec (.step n b) s = .next { s with dirl := .cw, rem := n, seq := .sLoop }) ∧
    (b = 0xFF → exec (.step n b) s = .next { s with dirl := .ccw, rem := n, seq := .sLoop }) ∧
    (b ≠ 0x01 ∧ b ≠ 0xFF → exec (.step n b) s = .next { s with seq := .clear })

/-- R143: S_LOOP goes to CLEAR when no steps remain, and otherwise advances COIL, drives it, counts down, and starts a wait
of 2 ticks that returns to S_LOOP. -/
def Obligations.LoopAdvancesDrivesAndWaits : Prop :=
  ∀ s : State, s.seq = .sLoop →
    (s.rem = 0 → seqStep s = { s with seq := .clear }) ∧
    (s.rem ≠ 0 → seqStep s = { s with
      coil := rotate s.dirl s.coil, coilOut := rotate s.dirl s.coil, rem := s.rem - 1,
      tick := 0, rate := .slow, cmp := Config.cmpSlow, tie := true, gie := true,
      wtgt := 2, ret := .toStep, seq := .wPoll })

/-- R144: CLEAR de-energizes the coil lines, responds, and goes to IDLE. -/
def Obligations.ClearDeEnergizesAndResponds : Prop :=
  ∀ s : State, s.seq = .clear →
    seqStep s = { s with coilOut := 0b0000, completions := .done :: s.completions, seq := .idle }

/-- R150, R151: STEP_INIT at its parameters REST_PATTERN, INIT_WAIT_TICKS and INIT_RESETS_COIL: output mode, the rest pattern,
COIL as the parameter says, and the wait that returns to CLEAR, or CLEAR at once when the wait is of 0 ticks. The command
runs it at the configured values, the defaults of R6 (log entry 7). -/
def Obligations.StepInitDrivesTheRestPattern : Prop :=
  (∀ s : State, exec .stepInit s = .next (stepInitWith Config.stepInit s)) ∧
  ∀ (p : Config.StepInitParams) (s : State),
    (p.initWaitTicks ≠ 0 → stepInitWith p s = { s with
      coilOe := 0b1111, coil := if p.initResetsCoil then 0b0001 else s.coil, coilOut := p.restPattern,
      tick := 0, rate := .slow, cmp := Config.cmpSlow, tie := true, gie := true,
      wtgt := p.initWaitTicks, ret := .toClear, seq := .wPoll }) ∧
    (p.initWaitTicks = 0 → stepInitWith p s = { s with
      coilOe := 0b1111, coil := if p.initResetsCoil then 0b0001 else s.coil, coilOut := p.restPattern,
      seq := .clear })

/-- R148: from any idle state, however the turns fall, a STEP n, dir that runs to its end without a reset
has rotated COIL n times in its direction (not at all for a direction that is not ±1), leaves the coils de-energized, and
has given one completion; if it took a step the timer is stopped with TICK 2 or 3 and GIE set, and otherwise the
timer's settings are as they were. With the timer stopped before it, it saw between 2n and 3n TICK events. -/
def Obligations.StepRotatesAndEndsDeEnergized : Prop :=
  ∀ (s s' t : State) (n : StepCount) (b : DirByte) (k : Nat), s.seq = .idle → Turn.reset ∉ s.turns →
    exec (.step n b) s = .next s' → BusyRun k s' t → t.seq = .idle →
      (b = 0x01 → t.coil = rotateBy .cw n.toNat s.coil ∧ t.dirl = .cw ∧ t.rem = 0) ∧
      (b = 0xFF → t.coil = rotateBy .ccw n.toNat s.coil ∧ t.dirl = .ccw ∧ t.rem = 0) ∧
      (b ≠ 0x01 → b ≠ 0xFF → t.coil = s.coil ∧ t.dirl = s.dirl ∧ t.rem = s.rem) ∧
      t.coilOut = 0b0000 ∧
      ((b = 0x01 ∨ b = 0xFF) ∧ n ≠ 0 →
        (t.tick = 2 ∨ t.tick = 3) ∧ t.rate = .none ∧ t.cmp = 0 ∧ t.tie = false ∧ t.gie = true ∧
        (TimerStopped s → 2 * n.toNat ≤ tickEvents k s' ∧ tickEvents k s' ≤ 3 * n.toNat)) ∧
      (¬((b = 0x01 ∨ b = 0xFF) ∧ n ≠ 0) →
        t.rate = s.rate ∧ t.cmp = s.cmp ∧ t.tie = s.tie ∧ t.gie = s.gie ∧
        (TimerStopped s → t.tick = s.tick ∧ tickEvents k s' = 0)) ∧
      t.coilOe = s.coilOe ∧ t.encPrev = s.encPrev ∧ t.completions = .done :: s.completions

/-- R150, R151: at every values of STEP_INIT's three parameters (the command runs it at the configured ones, log entry 7),
from any idle state and however the turns fall, a STEP_INIT that runs to its end without a reset leaves the coil port in
output mode and de-energized, and COIL as INIT_RESETS_COIL says. If it waited, the timer is stopped with INIT_WAIT_TICKS or
one more in TICK, and GIE is set; with INIT_WAIT_TICKS = 0 the timer is not touched. -/
def Obligations.StepInitEndsDeEnergized : Prop :=
  (∀ s : State, exec .stepInit s = .next (stepInitWith Config.stepInit s)) ∧
  ∀ (p : Config.StepInitParams) (s t : State) (k : Nat), s.seq = .idle → Turn.reset ∉ s.turns →
    BusyRun k (stepInitWith p s) t → t.seq = .idle →
      t.coilOe = 0b1111 ∧ t.coilOut = 0b0000 ∧ t.coil = (if p.initResetsCoil then 0b0001 else s.coil) ∧
      (p.initWaitTicks ≠ 0 →
        (t.tick = p.initWaitTicks ∨ t.tick = p.initWaitTicks + 1) ∧
        t.rate = .none ∧ t.cmp = 0 ∧ t.tie = false ∧ t.gie = true) ∧
      (p.initWaitTicks = 0 →
        t.rate = s.rate ∧ t.cmp = s.cmp ∧ t.tie = s.tie ∧ t.gie = s.gie ∧ (TimerStopped s → t.tick = s.tick)) ∧
      t.encPrev = s.encPrev ∧ t.rem = s.rem ∧ t.dirl = s.dirl ∧ t.completions = .done :: s.completions

/-! ### Input readers (43_inputs.md) -/

/-- R161, R162: whatever the sample, the reported position is one more than the highest pressed index, or 0 when none is
pressed, and never above 6. -/
def Obligations.HighestPressedButtonWins : Prop :=
  ∀ v : BtnSample, IsPosition v (btnPosition v) ∧ btnPosition v ≤ 6

/-- R160: BTN_RD takes one sample of the port and responds with its position; no cell is written. The sample is the one
PinRead draws, listed or free (log entry 4). -/
def Obligations.BtnRdReportsThePosition : Prop :=
  ∀ s : State, ∃ p : Nat, IsPosition (pinReadBtn s).1 p ∧
    exec .btnRd s = .next { s with
      btnIn := (pinReadBtn s).2.btnIn, draws := (pinReadBtn s).2.draws,
      completions := .value (BitVec.ofNat 16 p) :: s.completions }

/-- R164: ENC_RD reports +1 from 11 to 01, -1 from 11 to 10 and 0 otherwise, and always stores the new sample in ENC_PREV; no
other cell is written. The sample is the one PinRead draws, listed or free (log entry 4). -/
def Obligations.EncRdReportsTheRotation : Prop :=
  ∀ s : State,
    exec .encRd s = .next { s with
      encIn := (pinReadEnc s).2.encIn, draws := (pinReadEnc s).2.draws, encPrev := (pinReadEnc s).1,
      completions := .value (if s.encPrev = 0b11 ∧ (pinReadEnc s).1 = 0b01 then 0x0001
        else if s.encPrev = 0b11 ∧ (pinReadEnc s).1 = 0b10 then 0xFFFF else 0x0000) :: s.completions }

/-- R52: a PinRead answers the next listed sample, or, with none listed, the free value, for every value of it; either
way no cell changes. The list and the free value are the model's (log entry 4). -/
def Obligations.PinReadDrawsOneSample : Prop :=
  ∀ s : State,
    (∀ v rest, s.btnIn = v :: rest → pinReadBtn s = (v, { s with btnIn := rest })) ∧
    (s.btnIn = [] → pinReadBtn s = (Config.btnDraw s.draws, { s with draws := s.draws + 1 })) ∧
    (∀ v rest, s.encIn = v :: rest → pinReadEnc s = (v, { s with encIn := rest })) ∧
    (s.encIn = [] → pinReadEnc s = (Config.encDraw s.draws, { s with draws := s.draws + 1 }))

/-- R169: a reader and a compare-match commute: the two orders of the two turns lead to the same state. -/
def Obligations.ReadersCommuteWithTheInterrupt : Prop :=
  ∀ (s : State) (w : CmdWord) (q : List HostAct) (ts : List Turn), s.seq = .idle → s.pollOwed = false →
    s.hostQueue = .command w :: q → (decodeWord w = .ok .btnRd ∨ decodeWord w = .ok .encRd) →
      ∃ t, core.run 2 { s with turns := .host :: .tick :: ts } = .next t ∧
        core.run 2 { s with turns := .tick :: .host :: ts } = .next t

/-! ### Whole-machine rules -/

/-- R201: every step of the block that is not a reset keeps SEQ or moves it along a row of the table of control
transfers: out of IDLE by the accepted command of the row, and elsewhere by a step of the SEQ agent under the row's
condition. -/
def Obligations.SeqMovesOnlyAlongTheTable : Prop :=
  ∀ s t : State, step s = .next t → s.turns.head? ≠ some .reset → t.seq ≠ s.seq →
    (s.seq = .idle ∧ ∃ w q ts i, Presents s w q ts ∧ decodeWord w = .ok i ∧ LeavesIdleBy i t) ∨
    ((nextTurn s).1 = .seq ∧
      ((s.seq = .wPoll ∧ s.wtgt.toNat ≤ s.tick.toNat ∧ t.seq = .wStop) ∨
       (s.seq = .wStop ∧ (s.ret = .toIdle ∧ t.seq = .idle ∨ s.ret = .toStep ∧ t.seq = .sLoop ∨
         s.ret = .toClear ∧ t.seq = .clear)) ∨
       (s.seq = .sLoop ∧ (s.rem = 0 ∧ t.seq = .clear ∨ s.rem ≠ 0 ∧ t.seq = .wPoll ∧ t.ret = .toStep)) ∨
       (s.seq = .clear ∧ t.seq = .idle)))

/-- R71: a command in progress gives exactly one completion, without a value, in the step that returns SEQ to IDLE, and
none before; an accepted command gives exactly one if it leaves SEQ in IDLE, and none otherwise. -/
def Obligations.OneCompletionOnReturnToIdle : Prop :=
  (∀ s t : State, step s = .next t → s.seq ≠ .idle → s.turns.head? ≠ some .reset →
    (t.seq = .idle ∧ t.completions = .done :: s.completions) ∨ (t.seq ≠ .idle ∧ t.completions = s.completions)) ∧
  (∀ (i : Instr) (s t : State), s.seq = .idle → exec i s = .next t →
    (t.seq = .idle ∧ ∃ c, t.completions = c :: s.completions) ∨ (t.seq ≠ .idle ∧ t.completions = s.completions))

/-- R29, R202: GIE falls only in the HOST's turn, by its own step while SEQ = IDLE, or in a reset; no command writes it to
0. -/
def Obligations.OnlyTheHostClearsGie : Prop :=
  (∀ s t : State, step s = .next t → s.gie = true → t.gie = false →
    s.turns.head? = some .reset ∨
      ((nextTurn s).1 = .host ∧ s.seq = .idle ∧ ∃ q, s.hostQueue = .clearGie :: q)) ∧
  (∀ (i : Instr) (s t : State), exec i s = .next t → s.gie = true → t.gie = true)

/-- R23, R24, R31: outside a reset, COIL_OE is written only by STEP_INIT and only to 1111, ENC_PREV only by ENC_RD, and COIL
only by S_LOOP's rotation or by STEP_INIT to 0001. -/
def Obligations.CellsHaveOnlyTheirWriters : Prop :=
  ∀ s t : State, step s = .next t → s.turns.head? ≠ some .reset →
    (t.coilOe ≠ s.coilOe → t.coilOe = 0b1111 ∧ ∃ w q ts, Presents s w q ts ∧ decodeWord w = .ok .stepInit) ∧
    (t.encPrev ≠ s.encPrev → ∃ w q ts, Presents s w q ts ∧ decodeWord w = .ok .encRd) ∧
    (t.coil ≠ s.coil →
      (s.seq = .sLoop ∧ s.rem ≠ 0 ∧ t.coil = rotate s.dirl s.coil ∧ t.coilOut = t.coil) ∨
      (t.coil = 0b0001 ∧ ∃ w q ts, Presents s w q ts ∧ decodeWord w = .ok .stepInit))

/-- R180, R181: a step of the block always has a next state, unless the HOST presents a word that is refused: one that does
not decode, or TMR_START with an out-of-contract rate. -/
def Obligations.OnlyRefusedWordsStopTheBlock : Prop :=
  ∀ s : State, (∃ t, step s = .next t) ∨
    ∃ (w : CmdWord) (q : List HostAct) (ts : List Turn) (r : Refusal), Presents s w q ts ∧ step s = .refused r ∧
      ¬∃ i, decodeWord w = .ok i ∧ i.wellFormed = true

/-- R38, R39, R40, R125, R126, R225: every step keeps the invariant. -/
def Obligations.StepKeepsTheInvariant : Prop :=
  ∀ s t : State, BlockInv s → step s = .next t → BlockInv t

/-- R38, R39: the reset state meets the invariant. -/
def Obligations.ResetMeetsTheInvariant : Prop := BlockInv State.reset

/-! ### Reset (70_reset_and_hazards.md) -/

/-- R41: the values the spec gives the cells at reset. -/
def Obligations.ResetStateHasTheSpecsValues : Prop :=
  State.reset.seq = .idle ∧ State.reset.tick = 0 ∧ State.reset.rate = .none ∧ State.reset.cmp = 0 ∧
  State.reset.tie = false ∧ State.reset.gie = false ∧ State.reset.coil = 0b0001 ∧ State.reset.coilOut = 0b0000 ∧
  State.reset.coilOe = 0b0000 ∧ State.reset.encPrev = 0b11

/-- R210, R212: from any state, in progress or not, the reset input puts the cells at those values and gives no completion; what
lies outside the block keeps its value (log entry 12). -/
def Obligations.ResetAbandonsTheCommand : Prop :=
  ∀ s : State, ∃ t, runTurn .reset s = .next t ∧
    t.seq = .idle ∧ t.tick = 0 ∧ t.rate = .none ∧ t.cmp = 0 ∧ t.tie = false ∧ t.gie = false ∧
    t.coil = 0b0001 ∧ t.coilOut = 0b0000 ∧ t.coilOe = 0b0000 ∧ t.encPrev = 0b11 ∧
    t.completions = s.completions ∧ t.hostQueue = s.hostQueue ∧ t.turns = s.turns ∧
    t.btnIn = s.btnIn ∧ t.encIn = s.encIn ∧ t.draws = s.draws

/-- R30, R31: a coil line in output mode carries its bit of COILOUT; the block drives no other line. -/
def Obligations.CoilLinesCarryTheLatch : Prop :=
  ∀ (s : State) (i : Fin 4),
    (s.coilOe.getLsbD i = true → s.coilLine i = some (s.coilOut.getLsbD i)) ∧
    (s.coilOe.getLsbD i = false → s.coilLine i = none)
end

