-- ==== Sys2Proof/Laws/Word.lean ====
section
/-! SUPPORT. The range of each word type at the configured widths, as numerals that arithmetic tactics can use. -/

namespace Sys2Proof

theorem tickVal_lt (v : TickVal) : v.toNat < 65536 := v.isLt
theorem duration_lt (v : Duration) : v.toNat < 65536 := v.isLt
theorem rspVal_lt (v : RspVal) : v.toNat < 65536 := v.isLt
theorem stepCount_lt (v : StepCount) : v.toNat < 256 := v.isLt
theorem dirByte_lt (v : DirByte) : v.toNat < 256 := v.isLt
theorem rateByte_lt (v : RateByte) : v.toNat < 256 := v.isLt
theorem cmpVal_lt (v : CmpVal) : v.toNat < 256 := v.isLt

end Sys2Proof
end

