-- ==== Sys2Proof/Laws/Decode.lean ====
section
/-! SUPPORT. The fields of any word by arithmetic on its value, and of an encoded word (30_encoding.md R72). -/

namespace Sys2Proof

theorem fieldOp_toNat (w : CmdBits) : (fieldOp w).toNat = w.toNat / 2 ^ 20 := by
  simp [fieldOp, Nat.shiftRight_eq_div_pow]; omega

theorem fieldZ_toNat (w : CmdBits) : (fieldZ w).toNat = w.toNat / 2 ^ 16 % 16 := by
  simp [fieldZ, Nat.shiftRight_eq_div_pow]

theorem fieldA_toNat (w : CmdBits) : (fieldA w).toNat = w.toNat / 2 ^ 8 % 256 := by
  simp [fieldA, Nat.shiftRight_eq_div_pow]

theorem fieldB_toNat (w : CmdBits) : (fieldB w).toNat = w.toNat % 256 := by
  simp [fieldB]

theorem fieldImm16_toNat (w : CmdBits) : (fieldImm16 w).toNat = w.toNat % 65536 := by
  simp [fieldImm16]

/-- The value of a word assembled from OP, Z = 0000 and A ++ B. -/
theorem encode_toNat (i : Instr) : (encode i).toNat = i.opcode.toNat * 2 ^ 20 + i.operandBits.toNat := by
  have ho := i.opcode.isLt
  have hb := i.operandBits.isLt
  simp only [encode, BitVec.toNat_append]
  simp
  rw [← Nat.shiftLeft_add_eq_or_of_lt (by omega)]
  simp [Nat.shiftLeft_eq]; omega

@[simp] theorem fieldOp_encode (i : Instr) : fieldOp (encode i) = i.opcode := by
  have hb := i.operandBits.isLt
  apply BitVec.eq_of_toNat_eq
  rw [fieldOp_toNat, encode_toNat]; omega

@[simp] theorem fieldZ_encode (i : Instr) : fieldZ (encode i) = 0 := by
  have hb := i.operandBits.isLt
  apply BitVec.eq_of_toNat_eq
  rw [fieldZ_toNat, encode_toNat]; simp; omega

@[simp] theorem fieldImm16_encode (i : Instr) : fieldImm16 (encode i) = i.operandBits := by
  have hb := i.operandBits.isLt
  apply BitVec.eq_of_toNat_eq
  rw [fieldImm16_toNat, encode_toNat]; omega

@[simp] theorem operandBits_tmrStart (r : RateByte) : (Instr.tmrStart r).operandBits.toNat = r.toNat := by
  simp only [Instr.operandBits]
  rw [BitVec.toNat_append]; simp

@[simp] theorem operandBits_step (n : StepCount) (dir : DirByte) :
    (Instr.step n dir).operandBits.toNat = n.toNat * 256 + dir.toNat := by
  simp only [Instr.operandBits, BitVec.setWidth_eq]
  rw [BitVec.toNat_append, ← Nat.shiftLeft_add_eq_or_of_lt dir.isLt, Nat.shiftLeft_eq]
  rfl

/-- IMM16 is A ++ B (R72). -/
theorem fieldImm16_eq (w : CmdBits) : (fieldImm16 w).toNat = (fieldA w).toNat * 256 + (fieldB w).toNat := by
  rw [fieldImm16_toNat, fieldA_toNat, fieldB_toNat]; omega

/-! ### Masked words (R73): a mask that keeps the bits from `k` up compares the values above bit `k` -/

theorem and_highMask (w : CmdBits) (k : Nat) : w &&& (BitVec.allOnes 24 <<< k) = (w >>> k) <<< k := by
  ext i hi
  simp [BitVec.getElem_shiftLeft, -BitVec.reduceAllOnes]
  by_cases h : i < k
  · simp [h]
  · have e : k + (i - k) = i := by omega
    simp [h, e, ← BitVec.getLsbD_eq_getElem, -BitVec.reduceAllOnes]

theorem highMask_selects (w v : CmdBits) (k : Nat) (hv : v.toNat % 2 ^ k = 0) :
    w &&& (BitVec.allOnes 24 <<< k) = v ↔ w.toNat / 2 ^ k = v.toNat / 2 ^ k := by
  have e : ((w >>> k) <<< k).toNat = w.toNat / 2 ^ k * 2 ^ k := by
    rw [BitVec.toNat_shiftLeft, BitVec.toNat_ushiftRight, Nat.shiftRight_eq_div_pow, Nat.shiftLeft_eq]
    exact Nat.mod_eq_of_lt (lt_of_le_of_lt (Nat.div_mul_le_self _ _) w.isLt)
  have hm := Nat.div_add_mod v.toNat (2 ^ k)
  rw [and_highMask, ← BitVec.toNat_inj, e]
  constructor
  · intro h; rw [← h, Nat.mul_div_cancel _ (Nat.two_pow_pos k)]
  · intro h; rw [h, mul_comm]; omega

theorem and_mask8 (w v : CmdBits) (hv : v.toNat % 2 ^ 8 = 0) :
    w &&& (0xFFFF00 : CmdBits) = v ↔ w.toNat / 2 ^ 8 = v.toNat / 2 ^ 8 := highMask_selects w v 8 hv

theorem and_mask16 (w v : CmdBits) (hv : v.toNat % 2 ^ 16 = 0) :
    w &&& (0xFF0000 : CmdBits) = v ↔ w.toNat / 2 ^ 16 = v.toNat / 2 ^ 16 := highMask_selects w v 16 hv

theorem and_mask0 (w v : CmdBits) : w &&& (0xFFFFFF : CmdBits) = v ↔ w = v := by
  rw [show (0xFFFFFF : CmdBits) = BitVec.allOnes 24 from rfl, BitVec.and_allOnes]

end Sys2Proof
end

