-- ==== Sys2Proof/Laws/State.lean ====
section
/-! SUPPORT. One lemma per field of State per named update, true by rfl, so that no later proof unfolds a record
update. -/

namespace Sys2Proof.Machine

/-! ### `do_start` (R101) -/

@[simp] theorem doStart_seq (u : RateUnit) (s : State) : (doStart u s).seq = s.seq := rfl
@[simp] theorem doStart_tick (u : RateUnit) (s : State) : (doStart u s).tick = 0 := rfl
@[simp] theorem doStart_rate (u : RateUnit) (s : State) : (doStart u s).rate = u.sel := rfl
@[simp] theorem doStart_cmp (u : RateUnit) (s : State) : (doStart u s).cmp = u.threshold := rfl
@[simp] theorem doStart_tie (u : RateUnit) (s : State) : (doStart u s).tie = true := rfl
@[simp] theorem doStart_gie (u : RateUnit) (s : State) : (doStart u s).gie = true := rfl
@[simp] theorem doStart_coil (u : RateUnit) (s : State) : (doStart u s).coil = s.coil := rfl
@[simp] theorem doStart_coilOut (u : RateUnit) (s : State) : (doStart u s).coilOut = s.coilOut := rfl
@[simp] theorem doStart_coilOe (u : RateUnit) (s : State) : (doStart u s).coilOe = s.coilOe := rfl
@[simp] theorem doStart_encPrev (u : RateUnit) (s : State) : (doStart u s).encPrev = s.encPrev := rfl
@[simp] theorem doStart_wtgt (u : RateUnit) (s : State) : (doStart u s).wtgt = s.wtgt := rfl
@[simp] theorem doStart_ret (u : RateUnit) (s : State) : (doStart u s).ret = s.ret := rfl
@[simp] theorem doStart_rem (u : RateUnit) (s : State) : (doStart u s).rem = s.rem := rfl
@[simp] theorem doStart_dirl (u : RateUnit) (s : State) : (doStart u s).dirl = s.dirl := rfl
@[simp] theorem doStart_hostQueue (u : RateUnit) (s : State) : (doStart u s).hostQueue = s.hostQueue := rfl
@[simp] theorem doStart_completions (u : RateUnit) (s : State) : (doStart u s).completions = s.completions := rfl
@[simp] theorem doStart_btnIn (u : RateUnit) (s : State) : (doStart u s).btnIn = s.btnIn := rfl
@[simp] theorem doStart_encIn (u : RateUnit) (s : State) : (doStart u s).encIn = s.encIn := rfl
@[simp] theorem doStart_draws (u : RateUnit) (s : State) : (doStart u s).draws = s.draws := rfl
@[simp] theorem doStart_turns (u : RateUnit) (s : State) : (doStart u s).turns = s.turns := rfl
@[simp] theorem doStart_pollOwed (u : RateUnit) (s : State) : (doStart u s).pollOwed = s.pollOwed := rfl

/-! ### `do_stop` (R104) -/

@[simp] theorem doStop_seq (s : State) : (doStop s).seq = s.seq := rfl
@[simp] theorem doStop_tick (s : State) : (doStop s).tick = s.tick := rfl
@[simp] theorem doStop_rate (s : State) : (doStop s).rate = .none := rfl
@[simp] theorem doStop_cmp (s : State) : (doStop s).cmp = 0 := rfl
@[simp] theorem doStop_tie (s : State) : (doStop s).tie = false := rfl
@[simp] theorem doStop_gie (s : State) : (doStop s).gie = s.gie := rfl
@[simp] theorem doStop_coil (s : State) : (doStop s).coil = s.coil := rfl
@[simp] theorem doStop_coilOut (s : State) : (doStop s).coilOut = s.coilOut := rfl
@[simp] theorem doStop_coilOe (s : State) : (doStop s).coilOe = s.coilOe := rfl
@[simp] theorem doStop_encPrev (s : State) : (doStop s).encPrev = s.encPrev := rfl
@[simp] theorem doStop_wtgt (s : State) : (doStop s).wtgt = s.wtgt := rfl
@[simp] theorem doStop_ret (s : State) : (doStop s).ret = s.ret := rfl
@[simp] theorem doStop_rem (s : State) : (doStop s).rem = s.rem := rfl
@[simp] theorem doStop_dirl (s : State) : (doStop s).dirl = s.dirl := rfl
@[simp] theorem doStop_hostQueue (s : State) : (doStop s).hostQueue = s.hostQueue := rfl
@[simp] theorem doStop_completions (s : State) : (doStop s).completions = s.completions := rfl
@[simp] theorem doStop_btnIn (s : State) : (doStop s).btnIn = s.btnIn := rfl
@[simp] theorem doStop_encIn (s : State) : (doStop s).encIn = s.encIn := rfl
@[simp] theorem doStop_draws (s : State) : (doStop s).draws = s.draws := rfl
@[simp] theorem doStop_turns (s : State) : (doStop s).turns = s.turns := rfl
@[simp] theorem doStop_pollOwed (s : State) : (doStop s).pollOwed = s.pollOwed := rfl

/-! ### `respond()` (R71) -/

@[simp] theorem respond_seq (s : State) : (respond s).seq = s.seq := rfl
@[simp] theorem respond_tick (s : State) : (respond s).tick = s.tick := rfl
@[simp] theorem respond_rate (s : State) : (respond s).rate = s.rate := rfl
@[simp] theorem respond_cmp (s : State) : (respond s).cmp = s.cmp := rfl
@[simp] theorem respond_tie (s : State) : (respond s).tie = s.tie := rfl
@[simp] theorem respond_gie (s : State) : (respond s).gie = s.gie := rfl
@[simp] theorem respond_coil (s : State) : (respond s).coil = s.coil := rfl
@[simp] theorem respond_coilOut (s : State) : (respond s).coilOut = s.coilOut := rfl
@[simp] theorem respond_coilOe (s : State) : (respond s).coilOe = s.coilOe := rfl
@[simp] theorem respond_encPrev (s : State) : (respond s).encPrev = s.encPrev := rfl
@[simp] theorem respond_wtgt (s : State) : (respond s).wtgt = s.wtgt := rfl
@[simp] theorem respond_ret (s : State) : (respond s).ret = s.ret := rfl
@[simp] theorem respond_rem (s : State) : (respond s).rem = s.rem := rfl
@[simp] theorem respond_dirl (s : State) : (respond s).dirl = s.dirl := rfl
@[simp] theorem respond_hostQueue (s : State) : (respond s).hostQueue = s.hostQueue := rfl
@[simp] theorem respond_completions (s : State) : (respond s).completions = .done :: s.completions := rfl
@[simp] theorem respond_btnIn (s : State) : (respond s).btnIn = s.btnIn := rfl
@[simp] theorem respond_encIn (s : State) : (respond s).encIn = s.encIn := rfl
@[simp] theorem respond_draws (s : State) : (respond s).draws = s.draws := rfl
@[simp] theorem respond_turns (s : State) : (respond s).turns = s.turns := rfl
@[simp] theorem respond_pollOwed (s : State) : (respond s).pollOwed = s.pollOwed := rfl

/-! ### `respond(v)` (R71) -/

@[simp] theorem respondValue_seq (v : RspVal) (s : State) : (respondValue v s).seq = s.seq := rfl
@[simp] theorem respondValue_tick (v : RspVal) (s : State) : (respondValue v s).tick = s.tick := rfl
@[simp] theorem respondValue_rate (v : RspVal) (s : State) : (respondValue v s).rate = s.rate := rfl
@[simp] theorem respondValue_cmp (v : RspVal) (s : State) : (respondValue v s).cmp = s.cmp := rfl
@[simp] theorem respondValue_tie (v : RspVal) (s : State) : (respondValue v s).tie = s.tie := rfl
@[simp] theorem respondValue_gie (v : RspVal) (s : State) : (respondValue v s).gie = s.gie := rfl
@[simp] theorem respondValue_coil (v : RspVal) (s : State) : (respondValue v s).coil = s.coil := rfl
@[simp] theorem respondValue_coilOut (v : RspVal) (s : State) : (respondValue v s).coilOut = s.coilOut := rfl
@[simp] theorem respondValue_coilOe (v : RspVal) (s : State) : (respondValue v s).coilOe = s.coilOe := rfl
@[simp] theorem respondValue_encPrev (v : RspVal) (s : State) : (respondValue v s).encPrev = s.encPrev := rfl
@[simp] theorem respondValue_wtgt (v : RspVal) (s : State) : (respondValue v s).wtgt = s.wtgt := rfl
@[simp] theorem respondValue_ret (v : RspVal) (s : State) : (respondValue v s).ret = s.ret := rfl
@[simp] theorem respondValue_rem (v : RspVal) (s : State) : (respondValue v s).rem = s.rem := rfl
@[simp] theorem respondValue_dirl (v : RspVal) (s : State) : (respondValue v s).dirl = s.dirl := rfl
@[simp] theorem respondValue_hostQueue (v : RspVal) (s : State) : (respondValue v s).hostQueue = s.hostQueue := rfl
@[simp] theorem respondValue_completions (v : RspVal) (s : State) : (respondValue v s).completions = .value v :: s.completions := rfl
@[simp] theorem respondValue_btnIn (v : RspVal) (s : State) : (respondValue v s).btnIn = s.btnIn := rfl
@[simp] theorem respondValue_encIn (v : RspVal) (s : State) : (respondValue v s).encIn = s.encIn := rfl
@[simp] theorem respondValue_draws (v : RspVal) (s : State) : (respondValue v s).draws = s.draws := rfl
@[simp] theorem respondValue_turns (v : RspVal) (s : State) : (respondValue v s).turns = s.turns := rfl
@[simp] theorem respondValue_pollOwed (v : RspVal) (s : State) : (respondValue v s).pollOwed = s.pollOwed := rfl

/-! ### PinWrite(COIL_PORT, v) (R52) -/

@[simp] theorem pinWriteCoil_seq (v : CoilBits) (s : State) : (pinWriteCoil v s).seq = s.seq := rfl
@[simp] theorem pinWriteCoil_tick (v : CoilBits) (s : State) : (pinWriteCoil v s).tick = s.tick := rfl
@[simp] theorem pinWriteCoil_rate (v : CoilBits) (s : State) : (pinWriteCoil v s).rate = s.rate := rfl
@[simp] theorem pinWriteCoil_cmp (v : CoilBits) (s : State) : (pinWriteCoil v s).cmp = s.cmp := rfl
@[simp] theorem pinWriteCoil_tie (v : CoilBits) (s : State) : (pinWriteCoil v s).tie = s.tie := rfl
@[simp] theorem pinWriteCoil_gie (v : CoilBits) (s : State) : (pinWriteCoil v s).gie = s.gie := rfl
@[simp] theorem pinWriteCoil_coil (v : CoilBits) (s : State) : (pinWriteCoil v s).coil = s.coil := rfl
@[simp] theorem pinWriteCoil_coilOut (v : CoilBits) (s : State) : (pinWriteCoil v s).coilOut = v := rfl
@[simp] theorem pinWriteCoil_coilOe (v : CoilBits) (s : State) : (pinWriteCoil v s).coilOe = s.coilOe := rfl
@[simp] theorem pinWriteCoil_encPrev (v : CoilBits) (s : State) : (pinWriteCoil v s).encPrev = s.encPrev := rfl
@[simp] theorem pinWriteCoil_wtgt (v : CoilBits) (s : State) : (pinWriteCoil v s).wtgt = s.wtgt := rfl
@[simp] theorem pinWriteCoil_ret (v : CoilBits) (s : State) : (pinWriteCoil v s).ret = s.ret := rfl
@[simp] theorem pinWriteCoil_rem (v : CoilBits) (s : State) : (pinWriteCoil v s).rem = s.rem := rfl
@[simp] theorem pinWriteCoil_dirl (v : CoilBits) (s : State) : (pinWriteCoil v s).dirl = s.dirl := rfl
@[simp] theorem pinWriteCoil_hostQueue (v : CoilBits) (s : State) : (pinWriteCoil v s).hostQueue = s.hostQueue := rfl
@[simp] theorem pinWriteCoil_completions (v : CoilBits) (s : State) : (pinWriteCoil v s).completions = s.completions := rfl
@[simp] theorem pinWriteCoil_btnIn (v : CoilBits) (s : State) : (pinWriteCoil v s).btnIn = s.btnIn := rfl
@[simp] theorem pinWriteCoil_encIn (v : CoilBits) (s : State) : (pinWriteCoil v s).encIn = s.encIn := rfl
@[simp] theorem pinWriteCoil_draws (v : CoilBits) (s : State) : (pinWriteCoil v s).draws = s.draws := rfl
@[simp] theorem pinWriteCoil_turns (v : CoilBits) (s : State) : (pinWriteCoil v s).turns = s.turns := rfl
@[simp] theorem pinWriteCoil_pollOwed (v : CoilBits) (s : State) : (pinWriteCoil v s).pollOwed = s.pollOwed := rfl

/-! ### taking the interrupt (R108) -/

@[simp] theorem takeTick_seq (s : State) : (takeTick s).seq = s.seq := rfl
@[simp] theorem takeTick_tick (s : State) : (takeTick s).tick = inc s.tick := rfl
@[simp] theorem takeTick_rate (s : State) : (takeTick s).rate = s.rate := rfl
@[simp] theorem takeTick_cmp (s : State) : (takeTick s).cmp = s.cmp := rfl
@[simp] theorem takeTick_tie (s : State) : (takeTick s).tie = s.tie := rfl
@[simp] theorem takeTick_gie (s : State) : (takeTick s).gie = s.gie := rfl
@[simp] theorem takeTick_coil (s : State) : (takeTick s).coil = s.coil := rfl
@[simp] theorem takeTick_coilOut (s : State) : (takeTick s).coilOut = s.coilOut := rfl
@[simp] theorem takeTick_coilOe (s : State) : (takeTick s).coilOe = s.coilOe := rfl
@[simp] theorem takeTick_encPrev (s : State) : (takeTick s).encPrev = s.encPrev := rfl
@[simp] theorem takeTick_wtgt (s : State) : (takeTick s).wtgt = s.wtgt := rfl
@[simp] theorem takeTick_ret (s : State) : (takeTick s).ret = s.ret := rfl
@[simp] theorem takeTick_rem (s : State) : (takeTick s).rem = s.rem := rfl
@[simp] theorem takeTick_dirl (s : State) : (takeTick s).dirl = s.dirl := rfl
@[simp] theorem takeTick_hostQueue (s : State) : (takeTick s).hostQueue = s.hostQueue := rfl
@[simp] theorem takeTick_completions (s : State) : (takeTick s).completions = s.completions := rfl
@[simp] theorem takeTick_btnIn (s : State) : (takeTick s).btnIn = s.btnIn := rfl
@[simp] theorem takeTick_encIn (s : State) : (takeTick s).encIn = s.encIn := rfl
@[simp] theorem takeTick_draws (s : State) : (takeTick s).draws = s.draws := rfl
@[simp] theorem takeTick_turns (s : State) : (takeTick s).turns = s.turns := rfl
@[simp] theorem takeTick_pollOwed (s : State) : (takeTick s).pollOwed = s.pollOwed := rfl

/-! ### returning from the interrupt (R192) -/

@[simp] theorem returnFromTick_seq (s : State) : (returnFromTick s).seq = s.seq := rfl
@[simp] theorem returnFromTick_tick (s : State) : (returnFromTick s).tick = s.tick := rfl
@[simp] theorem returnFromTick_rate (s : State) : (returnFromTick s).rate = s.rate := rfl
@[simp] theorem returnFromTick_cmp (s : State) : (returnFromTick s).cmp = s.cmp := rfl
@[simp] theorem returnFromTick_tie (s : State) : (returnFromTick s).tie = s.tie := rfl
@[simp] theorem returnFromTick_gie (s : State) : (returnFromTick s).gie = s.gie := rfl
@[simp] theorem returnFromTick_coil (s : State) : (returnFromTick s).coil = s.coil := rfl
@[simp] theorem returnFromTick_coilOut (s : State) : (returnFromTick s).coilOut = s.coilOut := rfl
@[simp] theorem returnFromTick_coilOe (s : State) : (returnFromTick s).coilOe = s.coilOe := rfl
@[simp] theorem returnFromTick_encPrev (s : State) : (returnFromTick s).encPrev = s.encPrev := rfl
@[simp] theorem returnFromTick_wtgt (s : State) : (returnFromTick s).wtgt = s.wtgt := rfl
@[simp] theorem returnFromTick_ret (s : State) : (returnFromTick s).ret = s.ret := rfl
@[simp] theorem returnFromTick_rem (s : State) : (returnFromTick s).rem = s.rem := rfl
@[simp] theorem returnFromTick_dirl (s : State) : (returnFromTick s).dirl = s.dirl := rfl
@[simp] theorem returnFromTick_hostQueue (s : State) : (returnFromTick s).hostQueue = s.hostQueue := rfl
@[simp] theorem returnFromTick_completions (s : State) : (returnFromTick s).completions = s.completions := rfl
@[simp] theorem returnFromTick_btnIn (s : State) : (returnFromTick s).btnIn = s.btnIn := rfl
@[simp] theorem returnFromTick_encIn (s : State) : (returnFromTick s).encIn = s.encIn := rfl
@[simp] theorem returnFromTick_draws (s : State) : (returnFromTick s).draws = s.draws := rfl
@[simp] theorem returnFromTick_turns (s : State) : (returnFromTick s).turns = s.turns := rfl
@[simp] theorem returnFromTick_pollOwed (s : State) : (returnFromTick s).pollOwed = s.pollOwed := rfl

/-! ### the start of a wait (R121) -/

@[simp] theorem beginWait_seq (d : Duration) (r : Ret) (s : State) : (beginWait d r s).seq = .wPoll := rfl
@[simp] theorem beginWait_tick (d : Duration) (r : Ret) (s : State) : (beginWait d r s).tick = 0 := rfl
@[simp] theorem beginWait_rate (d : Duration) (r : Ret) (s : State) : (beginWait d r s).rate = .slow := rfl
@[simp] theorem beginWait_cmp (d : Duration) (r : Ret) (s : State) : (beginWait d r s).cmp = Config.cmpSlow := rfl
@[simp] theorem beginWait_tie (d : Duration) (r : Ret) (s : State) : (beginWait d r s).tie = true := rfl
@[simp] theorem beginWait_gie (d : Duration) (r : Ret) (s : State) : (beginWait d r s).gie = true := rfl
@[simp] theorem beginWait_coil (d : Duration) (r : Ret) (s : State) : (beginWait d r s).coil = s.coil := rfl
@[simp] theorem beginWait_coilOut (d : Duration) (r : Ret) (s : State) : (beginWait d r s).coilOut = s.coilOut := rfl
@[simp] theorem beginWait_coilOe (d : Duration) (r : Ret) (s : State) : (beginWait d r s).coilOe = s.coilOe := rfl
@[simp] theorem beginWait_encPrev (d : Duration) (r : Ret) (s : State) : (beginWait d r s).encPrev = s.encPrev := rfl
@[simp] theorem beginWait_wtgt (d : Duration) (r : Ret) (s : State) : (beginWait d r s).wtgt = d := rfl
@[simp] theorem beginWait_ret (d : Duration) (r : Ret) (s : State) : (beginWait d r s).ret = r := rfl
@[simp] theorem beginWait_rem (d : Duration) (r : Ret) (s : State) : (beginWait d r s).rem = s.rem := rfl
@[simp] theorem beginWait_dirl (d : Duration) (r : Ret) (s : State) : (beginWait d r s).dirl = s.dirl := rfl
@[simp] theorem beginWait_hostQueue (d : Duration) (r : Ret) (s : State) : (beginWait d r s).hostQueue = s.hostQueue := rfl
@[simp] theorem beginWait_completions (d : Duration) (r : Ret) (s : State) : (beginWait d r s).completions = s.completions := rfl
@[simp] theorem beginWait_btnIn (d : Duration) (r : Ret) (s : State) : (beginWait d r s).btnIn = s.btnIn := rfl
@[simp] theorem beginWait_encIn (d : Duration) (r : Ret) (s : State) : (beginWait d r s).encIn = s.encIn := rfl
@[simp] theorem beginWait_draws (d : Duration) (r : Ret) (s : State) : (beginWait d r s).draws = s.draws := rfl
@[simp] theorem beginWait_turns (d : Duration) (r : Ret) (s : State) : (beginWait d r s).turns = s.turns := rfl
@[simp] theorem beginWait_pollOwed (d : Duration) (r : Ret) (s : State) : (beginWait d r s).pollOwed = s.pollOwed := rfl

/-! ### W_POLL (R123) -/

@[simp] theorem wPollStep_seq (s : State) : (wPollStep s).seq = if pollGoesOn s.tick s.wtgt then .wPoll else .wStop := rfl
@[simp] theorem wPollStep_tick (s : State) : (wPollStep s).tick = s.tick := rfl
@[simp] theorem wPollStep_rate (s : State) : (wPollStep s).rate = s.rate := rfl
@[simp] theorem wPollStep_cmp (s : State) : (wPollStep s).cmp = s.cmp := rfl
@[simp] theorem wPollStep_tie (s : State) : (wPollStep s).tie = s.tie := rfl
@[simp] theorem wPollStep_gie (s : State) : (wPollStep s).gie = s.gie := rfl
@[simp] theorem wPollStep_coil (s : State) : (wPollStep s).coil = s.coil := rfl
@[simp] theorem wPollStep_coilOut (s : State) : (wPollStep s).coilOut = s.coilOut := rfl
@[simp] theorem wPollStep_coilOe (s : State) : (wPollStep s).coilOe = s.coilOe := rfl
@[simp] theorem wPollStep_encPrev (s : State) : (wPollStep s).encPrev = s.encPrev := rfl
@[simp] theorem wPollStep_wtgt (s : State) : (wPollStep s).wtgt = s.wtgt := rfl
@[simp] theorem wPollStep_ret (s : State) : (wPollStep s).ret = s.ret := rfl
@[simp] theorem wPollStep_rem (s : State) : (wPollStep s).rem = s.rem := rfl
@[simp] theorem wPollStep_dirl (s : State) : (wPollStep s).dirl = s.dirl := rfl
@[simp] theorem wPollStep_hostQueue (s : State) : (wPollStep s).hostQueue = s.hostQueue := rfl
@[simp] theorem wPollStep_completions (s : State) : (wPollStep s).completions = s.completions := rfl
@[simp] theorem wPollStep_btnIn (s : State) : (wPollStep s).btnIn = s.btnIn := rfl
@[simp] theorem wPollStep_encIn (s : State) : (wPollStep s).encIn = s.encIn := rfl
@[simp] theorem wPollStep_draws (s : State) : (wPollStep s).draws = s.draws := rfl
@[simp] theorem wPollStep_turns (s : State) : (wPollStep s).turns = s.turns := rfl
@[simp] theorem wPollStep_pollOwed (s : State) : (wPollStep s).pollOwed = s.pollOwed := rfl

/-! ### CLEAR (R144) -/

@[simp] theorem clearStep_seq (s : State) : (clearStep s).seq = .idle := rfl
@[simp] theorem clearStep_tick (s : State) : (clearStep s).tick = s.tick := rfl
@[simp] theorem clearStep_rate (s : State) : (clearStep s).rate = s.rate := rfl
@[simp] theorem clearStep_cmp (s : State) : (clearStep s).cmp = s.cmp := rfl
@[simp] theorem clearStep_tie (s : State) : (clearStep s).tie = s.tie := rfl
@[simp] theorem clearStep_gie (s : State) : (clearStep s).gie = s.gie := rfl
@[simp] theorem clearStep_coil (s : State) : (clearStep s).coil = s.coil := rfl
@[simp] theorem clearStep_coilOut (s : State) : (clearStep s).coilOut = 0 := rfl
@[simp] theorem clearStep_coilOe (s : State) : (clearStep s).coilOe = s.coilOe := rfl
@[simp] theorem clearStep_encPrev (s : State) : (clearStep s).encPrev = s.encPrev := rfl
@[simp] theorem clearStep_wtgt (s : State) : (clearStep s).wtgt = s.wtgt := rfl
@[simp] theorem clearStep_ret (s : State) : (clearStep s).ret = s.ret := rfl
@[simp] theorem clearStep_rem (s : State) : (clearStep s).rem = s.rem := rfl
@[simp] theorem clearStep_dirl (s : State) : (clearStep s).dirl = s.dirl := rfl
@[simp] theorem clearStep_hostQueue (s : State) : (clearStep s).hostQueue = s.hostQueue := rfl
@[simp] theorem clearStep_completions (s : State) : (clearStep s).completions = .done :: s.completions := rfl
@[simp] theorem clearStep_btnIn (s : State) : (clearStep s).btnIn = s.btnIn := rfl
@[simp] theorem clearStep_encIn (s : State) : (clearStep s).encIn = s.encIn := rfl
@[simp] theorem clearStep_draws (s : State) : (clearStep s).draws = s.draws := rfl
@[simp] theorem clearStep_turns (s : State) : (clearStep s).turns = s.turns := rfl
@[simp] theorem clearStep_pollOwed (s : State) : (clearStep s).pollOwed = s.pollOwed := rfl

/-! ### `cont(ret)` (R121) -/

@[simp] theorem cont_tick (r : Ret) (s : State) : (cont r s).tick = s.tick := by cases r <;> rfl
@[simp] theorem cont_rate (r : Ret) (s : State) : (cont r s).rate = s.rate := by cases r <;> rfl
@[simp] theorem cont_cmp (r : Ret) (s : State) : (cont r s).cmp = s.cmp := by cases r <;> rfl
@[simp] theorem cont_tie (r : Ret) (s : State) : (cont r s).tie = s.tie := by cases r <;> rfl
@[simp] theorem cont_gie (r : Ret) (s : State) : (cont r s).gie = s.gie := by cases r <;> rfl
@[simp] theorem cont_coil (r : Ret) (s : State) : (cont r s).coil = s.coil := by cases r <;> rfl
@[simp] theorem cont_coilOut (r : Ret) (s : State) : (cont r s).coilOut = s.coilOut := by cases r <;> rfl
@[simp] theorem cont_coilOe (r : Ret) (s : State) : (cont r s).coilOe = s.coilOe := by cases r <;> rfl
@[simp] theorem cont_encPrev (r : Ret) (s : State) : (cont r s).encPrev = s.encPrev := by cases r <;> rfl
@[simp] theorem cont_wtgt (r : Ret) (s : State) : (cont r s).wtgt = s.wtgt := by cases r <;> rfl
@[simp] theorem cont_ret (r : Ret) (s : State) : (cont r s).ret = s.ret := by cases r <;> rfl
@[simp] theorem cont_rem (r : Ret) (s : State) : (cont r s).rem = s.rem := by cases r <;> rfl
@[simp] theorem cont_dirl (r : Ret) (s : State) : (cont r s).dirl = s.dirl := by cases r <;> rfl
@[simp] theorem cont_hostQueue (r : Ret) (s : State) : (cont r s).hostQueue = s.hostQueue := by cases r <;> rfl
@[simp] theorem cont_btnIn (r : Ret) (s : State) : (cont r s).btnIn = s.btnIn := by cases r <;> rfl
@[simp] theorem cont_encIn (r : Ret) (s : State) : (cont r s).encIn = s.encIn := by cases r <;> rfl
@[simp] theorem cont_draws (r : Ret) (s : State) : (cont r s).draws = s.draws := by cases r <;> rfl
@[simp] theorem cont_turns (r : Ret) (s : State) : (cont r s).turns = s.turns := by cases r <;> rfl
@[simp] theorem cont_pollOwed (r : Ret) (s : State) : (cont r s).pollOwed = s.pollOwed := by cases r <;> rfl

@[simp] theorem cont_toIdle (s : State) : cont .toIdle s = { respond s with seq := .idle } := rfl
@[simp] theorem cont_toStep (s : State) : cont .toStep s = { s with seq := .sLoop } := rfl
@[simp] theorem cont_toClear (s : State) : cont .toClear s = { s with seq := .clear } := rfl

/-! ### Reset (R41) -/

@[simp] theorem resetCells_seq (s : State) : (resetCells s).seq = .idle := rfl
@[simp] theorem resetCells_tick (s : State) : (resetCells s).tick = 0 := rfl
@[simp] theorem resetCells_rate (s : State) : (resetCells s).rate = .none := rfl
@[simp] theorem resetCells_cmp (s : State) : (resetCells s).cmp = 0 := rfl
@[simp] theorem resetCells_tie (s : State) : (resetCells s).tie = false := rfl
@[simp] theorem resetCells_gie (s : State) : (resetCells s).gie = false := rfl
@[simp] theorem resetCells_coil (s : State) : (resetCells s).coil = Params.coilReset := rfl
@[simp] theorem resetCells_coilOut (s : State) : (resetCells s).coilOut = 0 := rfl
@[simp] theorem resetCells_coilOe (s : State) : (resetCells s).coilOe = 0 := rfl
@[simp] theorem resetCells_encPrev (s : State) : (resetCells s).encPrev = Params.encReleased := rfl
@[simp] theorem resetCells_hostQueue (s : State) : (resetCells s).hostQueue = s.hostQueue := rfl
@[simp] theorem resetCells_completions (s : State) : (resetCells s).completions = s.completions := rfl
@[simp] theorem resetCells_btnIn (s : State) : (resetCells s).btnIn = s.btnIn := rfl
@[simp] theorem resetCells_encIn (s : State) : (resetCells s).encIn = s.encIn := rfl
@[simp] theorem resetCells_draws (s : State) : (resetCells s).draws = s.draws := rfl
@[simp] theorem resetCells_turns (s : State) : (resetCells s).turns = s.turns := rfl
@[simp] theorem resetCells_pollOwed (s : State) : (resetCells s).pollOwed = false := rfl

/-! ### A PinRead (R52) draws a sample and changes no cell -/

@[simp] theorem pinReadBtn_seq (s : State) : (pinReadBtn s).2.seq = s.seq := by
  unfold pinReadBtn; split <;> rfl
@[simp] theorem pinReadBtn_tick (s : State) : (pinReadBtn s).2.tick = s.tick := by
  unfold pinReadBtn; split <;> rfl
@[simp] theorem pinReadBtn_rate (s : State) : (pinReadBtn s).2.rate = s.rate := by
  unfold pinReadBtn; split <;> rfl
@[simp] theorem pinReadBtn_cmp (s : State) : (pinReadBtn s).2.cmp = s.cmp := by
  unfold pinReadBtn; split <;> rfl
@[simp] theorem pinReadBtn_tie (s : State) : (pinReadBtn s).2.tie = s.tie := by
  unfold pinReadBtn; split <;> rfl
@[simp] theorem pinReadBtn_gie (s : State) : (pinReadBtn s).2.gie = s.gie := by
  unfold pinReadBtn; split <;> rfl
@[simp] theorem pinReadBtn_coil (s : State) : (pinReadBtn s).2.coil = s.coil := by
  unfold pinReadBtn; split <;> rfl
@[simp] theorem pinReadBtn_coilOut (s : State) : (pinReadBtn s).2.coilOut = s.coilOut := by
  unfold pinReadBtn; split <;> rfl
@[simp] theorem pinReadBtn_coilOe (s : State) : (pinReadBtn s).2.coilOe = s.coilOe := by
  unfold pinReadBtn; split <;> rfl
@[simp] theorem pinReadBtn_encPrev (s : State) : (pinReadBtn s).2.encPrev = s.encPrev := by
  unfold pinReadBtn; split <;> rfl
@[simp] theorem pinReadBtn_wtgt (s : State) : (pinReadBtn s).2.wtgt = s.wtgt := by
  unfold pinReadBtn; split <;> rfl
@[simp] theorem pinReadBtn_ret (s : State) : (pinReadBtn s).2.ret = s.ret := by
  unfold pinReadBtn; split <;> rfl
@[simp] theorem pinReadBtn_rem (s : State) : (pinReadBtn s).2.rem = s.rem := by
  unfold pinReadBtn; split <;> rfl
@[simp] theorem pinReadBtn_dirl (s : State) : (pinReadBtn s).2.dirl = s.dirl := by
  unfold pinReadBtn; split <;> rfl
@[simp] theorem pinReadBtn_hostQueue (s : State) : (pinReadBtn s).2.hostQueue = s.hostQueue := by
  unfold pinReadBtn; split <;> rfl
@[simp] theorem pinReadBtn_completions (s : State) : (pinReadBtn s).2.completions = s.completions := by
  unfold pinReadBtn; split <;> rfl
@[simp] theorem pinReadBtn_encIn (s : State) : (pinReadBtn s).2.encIn = s.encIn := by
  unfold pinReadBtn; split <;> rfl
@[simp] theorem pinReadBtn_turns (s : State) : (pinReadBtn s).2.turns = s.turns := by
  unfold pinReadBtn; split <;> rfl
@[simp] theorem pinReadBtn_pollOwed (s : State) : (pinReadBtn s).2.pollOwed = s.pollOwed := by
  unfold pinReadBtn; split <;> rfl
@[simp] theorem pinReadEnc_seq (s : State) : (pinReadEnc s).2.seq = s.seq := by
  unfold pinReadEnc; split <;> rfl
@[simp] theorem pinReadEnc_tick (s : State) : (pinReadEnc s).2.tick = s.tick := by
  unfold pinReadEnc; split <;> rfl
@[simp] theorem pinReadEnc_rate (s : State) : (pinReadEnc s).2.rate = s.rate := by
  unfold pinReadEnc; split <;> rfl
@[simp] theorem pinReadEnc_cmp (s : State) : (pinReadEnc s).2.cmp = s.cmp := by
  unfold pinReadEnc; split <;> rfl
@[simp] theorem pinReadEnc_tie (s : State) : (pinReadEnc s).2.tie = s.tie := by
  unfold pinReadEnc; split <;> rfl
@[simp] theorem pinReadEnc_gie (s : State) : (pinReadEnc s).2.gie = s.gie := by
  unfold pinReadEnc; split <;> rfl
@[simp] theorem pinReadEnc_coil (s : State) : (pinReadEnc s).2.coil = s.coil := by
  unfold pinReadEnc; split <;> rfl
@[simp] theorem pinReadEnc_coilOut (s : State) : (pinReadEnc s).2.coilOut = s.coilOut := by
  unfold pinReadEnc; split <;> rfl
@[simp] theorem pinReadEnc_coilOe (s : State) : (pinReadEnc s).2.coilOe = s.coilOe := by
  unfold pinReadEnc; split <;> rfl
@[simp] theorem pinReadEnc_encPrev (s : State) : (pinReadEnc s).2.encPrev = s.encPrev := by
  unfold pinReadEnc; split <;> rfl
@[simp] theorem pinReadEnc_wtgt (s : State) : (pinReadEnc s).2.wtgt = s.wtgt := by
  unfold pinReadEnc; split <;> rfl
@[simp] theorem pinReadEnc_ret (s : State) : (pinReadEnc s).2.ret = s.ret := by
  unfold pinReadEnc; split <;> rfl
@[simp] theorem pinReadEnc_rem (s : State) : (pinReadEnc s).2.rem = s.rem := by
  unfold pinReadEnc; split <;> rfl
@[simp] theorem pinReadEnc_dirl (s : State) : (pinReadEnc s).2.dirl = s.dirl := by
  unfold pinReadEnc; split <;> rfl
@[simp] theorem pinReadEnc_hostQueue (s : State) : (pinReadEnc s).2.hostQueue = s.hostQueue := by
  unfold pinReadEnc; split <;> rfl
@[simp] theorem pinReadEnc_completions (s : State) : (pinReadEnc s).2.completions = s.completions := by
  unfold pinReadEnc; split <;> rfl
@[simp] theorem pinReadEnc_btnIn (s : State) : (pinReadEnc s).2.btnIn = s.btnIn := by
  unfold pinReadEnc; split <;> rfl
@[simp] theorem pinReadEnc_turns (s : State) : (pinReadEnc s).2.turns = s.turns := by
  unfold pinReadEnc; split <;> rfl
@[simp] theorem pinReadEnc_pollOwed (s : State) : (pinReadEnc s).2.pollOwed = s.pollOwed := by
  unfold pinReadEnc; split <;> rfl

end Sys2Proof.Machine
end

