-- ==== Sys2Proof/Laws/Ops.lean ====
section
/-! SUPPORT. One spec lemma per shared operation: everything it can do, for proofs to cite in place of unfolding it. -/

namespace Sys2Proof.Machine

/-! ### Arithmetic (R11) -/

theorem inc_tick_toNat (v : TickVal) : (inc v).toNat = (v.toNat + 1) % 65536 := BitVec.toNat_add v 1

theorem dec_count_toNat {v : StepCount} (h : v ≠ 0) : (dec v).toNat = v.toNat - 1 := by
  have hz : v.toNat ≠ 0 := fun e => h (BitVec.eq_of_toNat_eq e)
  have hl := stepCount_lt v
  simp [dec]; omega

theorem pollGoesOn_iff {tw dw : Nat} (t : BitVec tw) (d : BitVec dw) : pollGoesOn t d = true ↔ t.toNat < d.toNat := by
  simp [pollGoesOn]

/-! ### Operands -/

theorem rateOf_cases (r : RateByte) :
    (r = 0x00 ∧ rateOf r = some .slow) ∨ (r = 0x01 ∧ rateOf r = some .fast) ∨ (2 ≤ r.toNat ∧ rateOf r = none) := by
  unfold rateOf Params.rateSlow Params.rateFast
  by_cases h0 : r = 0x00#8
  · exact .inl ⟨h0, by simp [h0]⟩
  by_cases h1 : r = 0x01#8
  · exact .inr (.inl ⟨h1, by simp [h1]⟩)
  refine .inr (.inr ⟨?_, by simp [h0, h1]⟩)
  simp [BitVec.toNat_eq] at h0 h1
  omega

theorem dirOf_cases (d : DirByte) :
    (d = 0x01 ∧ dirOf d = some .cw) ∨ (d = 0xFF ∧ dirOf d = some .ccw) ∨
      (d ≠ 0x01 ∧ d ≠ 0xFF ∧ dirOf d = none) := by
  unfold dirOf Params.dirPlusOne Params.dirMinusOne
  by_cases h0 : d = 0x01#8
  · exact .inl ⟨h0, by simp [h0]⟩
  by_cases h1 : d = 0xFF#8
  · exact .inr (.inl ⟨h1, by simp [h1]⟩)
  exact .inr (.inr ⟨h0, h1, by simp [h0, h1]⟩)

theorem pinReadBtn_cases (s : State) :
    (∃ v rest, s.btnIn = v :: rest ∧ pinReadBtn s = (v, { s with btnIn := rest })) ∨
      (s.btnIn = [] ∧ pinReadBtn s = (Config.btnDraw s.draws, { s with draws := s.draws + 1 })) := by
  unfold pinReadBtn
  cases h : s.btnIn with
  | nil => exact .inr ⟨rfl, rfl⟩
  | cons v rest => exact .inl ⟨v, rest, rfl, rfl⟩

theorem pinReadEnc_cases (s : State) :
    (∃ v rest, s.encIn = v :: rest ∧ pinReadEnc s = (v, { s with encIn := rest })) ∨
      (s.encIn = [] ∧ pinReadEnc s = (Config.encDraw s.draws, { s with draws := s.draws + 1 })) := by
  unfold pinReadEnc
  cases h : s.encIn with
  | nil => exact .inr ⟨rfl, rfl⟩
  | cons v rest => exact .inl ⟨v, rest, rfl, rfl⟩

/-! ### The wait as a subroutine (R121) -/

theorem callWait_zero (r : Ret) (s : State) : callWait 0 r s = cont r s := rfl

theorem callWait_pos {d : Duration} (hd : d ≠ 0) (r : Ret) (s : State) : callWait d r s = beginWait d r s :=
  if_neg hd

/-! ### The rotator (R147) -/

theorem rotate_oneHot (d : Dir) {s : State} (h : Safety.CoilOneHot s) :
    rotate d s.coil = 0b0001 ∨ rotate d s.coil = 0b0010 ∨ rotate d s.coil = 0b0100 ∨ rotate d s.coil = 0b1000 := by
  rcases h with h | h | h | h <;> rw [h] <;> cases d <;> decide

/-! ### Status -/

theorem busy_iff (s : State) : s.busy = true ↔ s.seq ≠ .idle := by simp [State.busy]

theorem inFlight_iff (s : State) : s.inFlight = true ↔ s.seq = .wPoll ∨ s.seq = .wStop := by
  simp [State.inFlight]

theorem tickEnabled_iff (s : State) : s.tickEnabled = true ↔ s.rate ≠ .none ∧ s.tie = true ∧ s.gie = true := by
  simp [State.tickEnabled]

/-! ### The micro-steps (R143) -/

theorem sLoopStep_done {s : State} (h : s.rem = 0) : sLoopStep s = { s with seq := .clear } := by
  simp [sLoopStep, h]

theorem sLoopStep_more {s : State} (h : s.rem ≠ 0) :
    sLoopStep s =
      beginWait 2 .toStep
        { s with coil := rotate s.dirl s.coil, coilOut := rotate s.dirl s.coil, rem := dec s.rem } := by
  simp only [sLoopStep, h, if_false]
  rfl

end Sys2Proof.Machine
end

