-- ==== Sys2Proof/Laws/PerInstr.lean ====
section
/-! SUPPORT. Statements made once per constructor of Instr. Family OpcodeRow: the command's word selects the row of
30_encoding.md R73 that has its mnemonic. -/

namespace Sys2Proof.Laws.OpcodeRow

/-- Some row of R73 has the command's mnemonic and is selected by its word. -/
def Statement (i : Instr) : Prop := ∃ r ∈ opcodeRows, r.mnemonic = i.mnemonic ∧ r.selects (encode i)

theorem tmrStart (rate : RateByte) : Statement (.tmrStart rate) := by
  refine ⟨_, .head _, rfl, (and_mask8 _ _ (by decide)).2 ?_⟩
  have h := rateByte_lt rate
  have e : (Instr.tmrStart rate).operandBits.toNat = rate.toNat := operandBits_tmrStart rate
  rw [encode_toNat, e]
  simp [Instr.opcode]; omega

theorem tmrStop : Statement .tmrStop :=
  ⟨_, .tail _ (.head _), rfl, (and_mask0 _ _).2 rfl⟩

theorem tickRd : Statement .tickRd :=
  ⟨_, .tail _ (.tail _ (.head _)), rfl, (and_mask0 _ _).2 rfl⟩

theorem wait (duration : Duration) : Statement (.wait duration) := by
  refine ⟨_, .tail _ (.tail _ (.tail _ (.head _))), rfl, (and_mask16 _ _ (by decide)).2 ?_⟩
  have h := duration_lt duration
  rw [encode_toNat]
  simp [Instr.opcode, Instr.operandBits]; omega

theorem step (numSteps : StepCount) (direction : DirByte) : Statement (.step numSteps direction) := by
  refine ⟨_, .tail _ (.tail _ (.tail _ (.tail _ (.head _)))), rfl, (and_mask16 _ _ (by decide)).2 ?_⟩
  have h := (Instr.step numSteps direction).operandBits.isLt
  rw [encode_toNat]
  simp [Instr.opcode]; omega

theorem stepInit : Statement .stepInit :=
  ⟨_, .tail _ (.tail _ (.tail _ (.tail _ (.tail _ (.head _))))), rfl, (and_mask0 _ _).2 rfl⟩

theorem btnRd : Statement .btnRd :=
  ⟨_, .tail _ (.tail _ (.tail _ (.tail _ (.tail _ (.tail _ (.head _)))))), rfl, (and_mask0 _ _).2 rfl⟩

theorem encRd : Statement .encRd :=
  ⟨_, .tail _ (.tail _ (.tail _ (.tail _ (.tail _ (.tail _ (.tail _ (.head _))))))), rfl, (and_mask0 _ _).2 rfl⟩

end Sys2Proof.Laws.OpcodeRow
end

