-- ==== Sys2Proof/Laws/Step.lean ====
section
/-! SUPPORT. What a step can do, said once: the inversion lemmas of the agents' turns and of `step`. -/

namespace Sys2Proof.Machine

/-- Everything a command's acceptance step can do. -/
theorem exec_cases {i : Instr} {s t : State} (h : exec i s = .next t) :
    (∃ r u, i = .tmrStart r ∧ rateOf r = some u ∧ t = respond (doStart u s)) ∨
    (i = .tmrStop ∧ t = respond (doStop s)) ∨
    (i = .tickRd ∧ t = respondValue (s.tick.setWidth Config.rspW) s) ∨
    (∃ d, i = .wait d ∧ t = callWait d .toIdle s) ∨
    (∃ n b d, i = .step n b ∧ dirOf b = some d ∧ t = { s with dirl := d, rem := n, seq := .sLoop }) ∨
    (∃ n b, i = .step n b ∧ dirOf b = none ∧ t = { s with seq := .clear }) ∨
    (i = .stepInit ∧ t = stepInitWith Config.stepInit s) ∨
    (i = .btnRd ∧ t = respondValue (btnResponse (pinReadBtn s).1) (pinReadBtn s).2) ∨
    (i = .encRd ∧ t = respondValue (encResponse s.encPrev (pinReadEnc s).1)
      { (pinReadEnc s).2 with encPrev := (pinReadEnc s).1 }) := by
  cases i with
  | tmrStart r =>
    simp only [exec, execTmrStart] at h
    split at h
    · cases h; exact .inl ⟨r, _, rfl, ‹_›, rfl⟩
    · cases h
  | tmrStop => cases h; exact .inr (.inl ⟨rfl, rfl⟩)
  | tickRd => cases h; exact .inr (.inr (.inl ⟨rfl, rfl⟩))
  | wait d => cases h; exact .inr (.inr (.inr (.inl ⟨d, rfl, rfl⟩)))
  | step n b =>
    simp only [exec, execStep] at h
    split at h
    · cases h; exact .inr (.inr (.inr (.inr (.inl ⟨n, b, _, rfl, ‹_›, rfl⟩))))
    · cases h; exact .inr (.inr (.inr (.inr (.inr (.inl ⟨n, b, rfl, ‹_›, rfl⟩)))))
  | stepInit => cases h; simp
  | btnRd => cases h; simp
  | encRd => cases h; simp

/-- Everything the HOST's turn can do. -/
theorem hostTurn_cases {s t : State} (h : hostTurn s = .next t) :
    ((s.busy = true ∨ s.hostQueue = []) ∧ t = s) ∨
    (∃ rest, s.seq = .idle ∧ s.hostQueue = .clearGie :: rest ∧ t = { s with hostQueue := rest, gie := false }) ∨
    (∃ w rest i, s.seq = .idle ∧ s.hostQueue = .command w :: rest ∧ decodeWord w = .ok i ∧
      exec i { s with hostQueue := rest } = .next t) := by
  unfold hostTurn at h
  split at h
  · cases h; exact .inl ⟨.inl ‹_›, rfl⟩
  · rename_i hb
    have hi : s.seq = .idle := by simpa [State.busy] using hb
    split at h
    · cases h; exact .inl ⟨.inr ‹_›, rfl⟩
    · cases h; exact .inr (.inl ⟨_, hi, ‹_›, rfl⟩)
    · unfold accept at h
      split at h
      · exact .inr (.inr ⟨_, _, _, hi, ‹_›, ‹_›, h⟩)
      · cases h

/-- Everything the SEQ agent's micro-step can do. -/
theorem seqStep_cases (s : State) :
    (s.seq = .idle ∧ seqStep s = s) ∨
    (s.seq = .wPoll ∧ s.tick.toNat < s.wtgt.toNat ∧ seqStep s = s) ∨
    (s.seq = .wPoll ∧ s.wtgt.toNat ≤ s.tick.toNat ∧ seqStep s = { s with seq := .wStop }) ∨
    (s.seq = .wStop ∧ seqStep s = cont s.ret (doStop s)) ∨
    (s.seq = .sLoop ∧ s.rem = 0 ∧ seqStep s = { s with seq := .clear }) ∨
    (s.seq = .sLoop ∧ s.rem ≠ 0 ∧ seqStep s = beginWait 2 .toStep
      { s with coil := rotate s.dirl s.coil, coilOut := rotate s.dirl s.coil, rem := dec s.rem }) ∨
    (s.seq = .clear ∧ seqStep s = clearStep s) := by
  cases hq : s.seq with
  | idle => simp [seqStep, hq]
  | wPoll =>
    by_cases hlt : s.tick.toNat < s.wtgt.toNat
    · have e : seqStep s = s := by
        simp only [seqStep, hq, wPollStep, pollGoesOn, hlt, decide_true, if_true]
        rw [← hq]
      simp [hlt, e]
    · have e : seqStep s = { s with seq := .wStop } := by
        simp [seqStep, hq, wPollStep, pollGoesOn, hlt]
      exact .inr (.inr (.inl ⟨rfl, Nat.le_of_not_lt hlt, e⟩))
  | wStop => simp [seqStep, hq, wStopStep]
  | sLoop =>
    by_cases hr : s.rem = 0
    · simp [seqStep, hq, hr, sLoopStep_done hr]
    · exact .inr (.inr (.inr (.inr (.inr (.inl ⟨rfl, hr, by simp only [seqStep, hq, sLoopStep_more hr]⟩)))))
  | clear => simp [seqStep, hq]

/-- Everything the timer's turn can do. -/
theorem tickTurn_cases (s : State) :
    (s.tickEnabled = true ∧ tickTurn s = { s with tick := inc s.tick, pollOwed := s.inFlight }) ∨
    (s.tickEnabled = false ∧ tickTurn s = s) := by
  cases h : s.tickEnabled <;> simp [tickTurn, compareMatch, h, takeTick, returnFromTick]

/-- Which turn is next, and what is left of the list. -/
theorem nextTurn_cases (s : State) :
    (s.turns = [] ∧ nextTurn s = (fallbackTurn s, [])) ∨
    (∃ rest, s.turns = .tick :: rest ∧ s.mustPoll = true ∧ nextTurn s = (.seq, s.turns)) ∨
    (∃ x rest, s.turns = x :: rest ∧ (x = .tick → s.mustPoll = false) ∧ nextTurn s = (x, rest)) := by
  unfold nextTurn
  cases h : s.turns with
  | nil => simp
  | cons x rest =>
    cases x with
    | tick => cases hm : s.mustPoll <;> simp
    | host => simp
    | seq => simp
    | reset => simp

/-- A compare-match is never the next turn while R126 forbids a TICK event. -/
theorem nextTurn_tick {s : State} (h : (nextTurn s).1 = .tick) : s.mustPoll = false := by
  rcases nextTurn_cases s with ⟨-, e⟩ | ⟨_, -, -, e⟩ | ⟨x, _, -, hx, e⟩
  · rw [e] at h
    simp only [fallbackTurn] at h
    split at h <;> rename_i hq
    · simp [State.mustPoll, State.inFlight, hq]
    · split at h
      · simp_all [State.mustPoll]
      · cases h
    all_goals cases h
  · rw [e] at h; cases h
  · rw [e] at h; exact hx h

/-- Everything a step can do: the next turn, taken in the state with that turn removed from the list. -/
theorem step_cases {s t : State} (h : step s = .next t) :
    ∃ ts, (nextTurn s).2 = ts ∧
      (((nextTurn s).1 = .host ∧ hostTurn { s with turns := ts } = .next t) ∨
       ((nextTurn s).1 = .seq ∧ t = seqTurn { s with turns := ts }) ∨
       ((nextTurn s).1 = .tick ∧ s.mustPoll = false ∧ t = tickTurn { s with turns := ts }) ∨
       ((nextTurn s).1 = .reset ∧ t = resetCells { s with turns := ts })) := by
  refine ⟨_, rfl, ?_⟩
  unfold step oneStep runTurn at h
  cases hn : (nextTurn s).1 with
  | host => rw [hn] at h; exact .inl ⟨rfl, h⟩
  | seq => rw [hn] at h; cases h; exact .inr (.inl ⟨rfl, rfl⟩)
  | tick => rw [hn] at h; cases h; exact .inr (.inr (.inl ⟨rfl, nextTurn_tick hn, rfl⟩))
  | reset => rw [hn] at h; cases h; exact .inr (.inr (.inr ⟨rfl, rfl⟩))

/-- The reset turn is next only when it heads the list. -/
theorem nextTurn_reset {s : State} (h : (nextTurn s).1 = .reset) : s.turns.head? = some .reset := by
  rcases nextTurn_cases s with ⟨-, e⟩ | ⟨_, -, -, e⟩ | ⟨x, _, hx, -, e⟩
  · rw [e] at h
    simp only [fallbackTurn] at h
    split at h
    · split at h <;> cases h
    · split at h <;> cases h
    all_goals cases h
  · rw [e] at h; cases h
  · rw [e] at h; simp only at h; rw [hx, h]; rfl

end Sys2Proof.Machine
end

