-- ==== Sys2Proof/Tests/Slice0.lean ====
section
/-! SUPPORT. The model's own tests: what WellFormed and the decoder refuse, words written out from 30_encoding.md, one step
of each command against the vectors of 95_test_vectors.md, and a witness for the hypotheses of every statement of
Certificates/Slice0/Obligations.lean. Expected values are the spec's. A value of CMP is an opaque constant, so a theorem
about a whole started state closes by `rfl` and not by `decide`. -/

namespace Sys2Proof.Tests

open Sys2Proof.Machine Sys2Proof.Safety

/-! ### Well-formedness (each check refuses an ill-formed term) -/

theorem test_wellFormed_rate_out_of_contract_refused :
    (Instr.tmrStart 0x02).wellFormed = false ∧ (Instr.tmrStart 0xFF).wellFormed = false ∧
    (Instr.tmrStart 0x01).wellFormed = true := by decide

theorem test_wellFormed_short_and_long_words_refused :
    CmdWord.wellFormed { width := 23, bits := 0 } = false ∧ CmdWord.wellFormed { width := 25, bits := 0 } = false ∧
    CmdWord.wellFormed { width := 24, bits := 2 ^ 24 } = false ∧
    CmdWord.wellFormed { width := 24, bits := 2 ^ 24 - 1 } = true := by decide

/-- R77, R146: every count and every direction is defined. -/
theorem test_wellFormed_step_any_operands :
    (Instr.step 0 0x00).wellFormed = true ∧ (Instr.step 255 0x80).wellFormed = true := by decide

/-! ### Decoding: words written out from R72, R73 and R84 (vectors E1 to E27) -/

/-- OP = 0001, Z = 0000, A = 0x00, B = the rate (E1, E2, E3, E4). -/
theorem test_decode_tmrStart :
    decode 0b000100000000000000000000 = .ok (.tmrStart 0x00) ∧
    decode 0b000100000000000000000001 = .ok (.tmrStart 0x01) ∧
    decode 0b000100000000000011111111 = .ok (.tmrStart 0xFF) := by decide

/-- OP = 0010 (E6). -/
theorem test_decode_tmrStop : decode 0b001000000000000000000000 = .ok .tmrStop := by decide

/-- OP = 0011 (E9). -/
theorem test_decode_tickRd : decode 0b001100000000000000000000 = .ok .tickRd := by decide

/-- OP = 0100, IMM16 = 0x03E8, 0xFFFF, 0x0000 (E10 to E12). -/
theorem test_decode_wait :
    decode 0b010000000000001111101000 = .ok (.wait 1000) ∧
    decode 0b010000001111111111111111 = .ok (.wait 65535) ∧
    decode 0b010000000000000000000000 = .ok (.wait 0) := by decide

/-- OP = 0101, A = the count, B = the direction (E14 to E19). -/
theorem test_decode_step :
    decode 0b010100000000010000000001 = .ok (.step 4 0x01) ∧
    decode 0b010100000000010011111111 = .ok (.step 4 0xFF) ∧
    decode 0b010100000000010010000000 = .ok (.step 4 0x80) ∧
    decode 0b010100001111111100000001 = .ok (.step 255 0x01) := by decide

/-- OP = 0110 (E20). -/
theorem test_decode_stepInit : decode 0b011000000000000000000000 = .ok .stepInit := by decide

/-- OP = 0111 (E21). -/
theorem test_decode_btnRd : decode 0b011100000000000000000000 = .ok .btnRd := by decide

/-- OP = 1000 (E22). -/
theorem test_decode_encRd : decode 0b100000000000000000000000 = .ok .encRd := by decide

/-- E5, E7, E8, E13, E23 to E27. -/
theorem test_decode_refuses_reserved :
    decode 0x100100 = .error .reservedOperand ∧ decode 0x200001 = .error .reservedOperand ∧
    decode 0x800100 = .error .reservedOperand ∧ decode 0x210000 = .error .reservedZ ∧
    decode 0x410005 = .error .reservedZ ∧ decode 0x000000 = .error .reservedOpcode ∧
    decode 0x900000 = .error .reservedOpcode ∧ decode 0xF00000 = .error .reservedOpcode ∧
    decode 0xFFFFFF = .error .reservedOpcode := by decide

/-- R54: words that are not exactly 24 bits. -/
theorem test_decodeWord_refuses_other_lengths :
    decodeWord { width := 16, bits := 0x2000 } = .error .wrongLength ∧
    decodeWord { width := 32, bits := 0x200000 } = .error .wrongLength := by decide

/-- The rows of R84 the other way. -/
theorem test_encode_worked_examples :
    encode (.tmrStart 0x01) = 0x100001 ∧ encode .tmrStop = 0x200000 ∧ encode .tickRd = 0x300000 ∧
    encode (.wait 1000) = 0x4003E8 ∧ encode (.step 200 0x01) = 0x50C801 ∧ encode (.step 3 0x00) = 0x500300 ∧
    encode .stepInit = 0x600000 ∧ encode .btnRd = 0x700000 ∧ encode .encRd = 0x800000 := by decide

/-- R82, R83: `STEP 4, CCW`, `STEP 4, -1` and `STEP 255, -128` (0x50FF80, vector ST4); `TMR_START FAST` and `TMR_START #2`. -/
theorem test_spellings :
    encode (.step 4 DirSpelling.CCW.byte) = 0x5004FF ∧ encode (.step 4 (DirSpelling.lit (-1)).byte) = 0x5004FF ∧
    encode (.step 255 (DirSpelling.lit (-128)).byte) = 0x50FF80 ∧ encode (.step 4 DirSpelling.CW.byte) = 0x500401 ∧
    encode (.tmrStart RateSpelling.FAST.byte) = 0x100001 ∧ encode (.tmrStart RateSpelling.SLOW.byte) = 0x100000 ∧
    encode (.tmrStart (RateSpelling.lit 2).byte) = 0x100002 := by decide

/-- The opcode table's numbering: bit 0 of the table is bit 0 of the word. -/
theorem test_decodeTableWord :
    decodeTableWord 24 0x5004FF = some (.step 4 0xFF) ∧ decodeTableWord 24 0x210000 = none := by decide

/-! ### Small states -/

/-- HOST-started timer, block idle, coil away from its reset value (the start of vector X1). -/
def timing : State := { State.reset with
  tick := 4, rate := .slow, cmp := Config.cmpSlow, tie := true, gie := true, coil := 0b0100, encPrev := 0b01 }

/-- The HOST about to present a word. -/
def presenting (w : CmdWord) (s : State) : State := { s with hostQueue := [.command w], turns := [.host] }

/-- A wait in flight, `tk` ticks into `d`. -/
def waiting (tk : TickVal) (d : Duration) : State := { State.reset with
  seq := .wPoll, tick := tk, rate := .slow, cmp := Config.cmpSlow, tie := true, gie := true, wtgt := d }

/-- Stepper state of vectors ST2 to ST4: COIL = 0100, TICK = 9, timer stopped, GIE = 0. -/
def resting : State := { State.reset with coil := 0b0100, tick := 9 }

/-! ### One step of each command (95_test_vectors.md) -/

/-- T1, on a running timer of another rate (T7). -/
theorem test_tmrStart_restarts :
    exec (.tmrStart 0x01) timing = .next { timing with
      tick := 0, rate := .fast, cmp := Config.cmpFast, completions := [.done] } := rfl

/-- P6, T12. -/
theorem test_tmrStart_refuses_rate_2 : exec (.tmrStart 0x02) State.reset = .refused .rateOutOfContract := rfl

/-- T4: the count and GIE stay. -/
theorem test_tmrStop_keeps_the_count :
    exec .tmrStop { State.reset with tick := 7, rate := .fast, cmp := Config.cmpFast, tie := true, gie := true } =
      .next { State.reset with tick := 7, gie := true, completions := [.done] } := rfl

/-- T3's read, and T9. -/
theorem test_tickRd :
    exec .tickRd { State.reset with tick := 3 } =
      .next { State.reset with tick := 3, completions := [.value 0x0003] } ∧
    exec .tickRd State.reset = .next { State.reset with completions := [.value 0x0000] } := ⟨rfl, rfl⟩

/-- W1: `WAIT 0` from reset. -/
theorem test_wait_0 : exec (.wait 0) State.reset = .next { State.reset with completions := [.done] } := rfl

/-- W5's first line, on a running FAST timer (W8). -/
theorem test_wait_takes_over_the_timer :
    exec (.wait 3) { State.reset with
        tick := 0x0123, rate := .fast, cmp := Config.cmpFast, tie := true, gie := true } =
      .next (waiting 0 3) := rfl

/-- ST1's first line. -/
theorem test_step_latches :
    exec (.step 1 0x01) State.reset = .next { State.reset with seq := .sLoop, rem := 1, dirl := .cw } ∧
    exec (.step 2 0xFF) State.reset = .next { State.reset with seq := .sLoop, rem := 2, dirl := .ccw } := ⟨rfl, rfl⟩

/-- ST3, ST4. -/
theorem test_step_other_direction :
    exec (.step 3 0x00) resting = .next { resting with seq := .clear } ∧
    exec (.step 255 0x80) resting = .next { resting with seq := .clear } := ⟨rfl, rfl⟩

/-- ST12's first line. -/
theorem test_stepInit_from_reset :
    exec .stepInit State.reset = .next { State.reset with
      coilOe := 0b1111, coilOut := 0b0001, rate := .slow, cmp := Config.cmpSlow, tie := true, gie := true,
      wtgt := 2, ret := .toClear, seq := .wPoll } := rfl

/-- ST13 with INIT_RESETS_COIL = false, and ST15 with INIT_WAIT_TICKS = 0. -/
theorem test_stepInit_other_parameters :
    (stepInitWith { Config.stepInit with initResetsCoil := false } resting).coil = 0b0100 ∧
    (stepInitWith Config.stepInit resting).coil = 0b0001 ∧
    stepInitWith { Config.stepInit with initWaitTicks := 0 } State.reset = { State.reset with
      coilOe := 0b1111, coilOut := 0b0001, seq := .clear } := by decide

/-- B1, B2, B4, B7, B8, B10, B12. -/
theorem test_btnPosition_vectors :
    [0b111111, 0b111110, 0b111011, 0b011111, 0b011110, 0b110110, 0b100000].map btnResponse =
      [0x0000, 0x0001, 0x0003, 0x0006, 0x0006, 0x0004, 0x0005] := by decide

/-- S6 as a command: the sample is taken, and nothing else changes. -/
theorem test_btnRd :
    exec .btnRd { State.reset with btnIn := [0b110111, 0b111111] } =
      .next { State.reset with btnIn := [0b111111], completions := [.value 0x0004] } := rfl

/-- S7's two calls. -/
theorem test_encRd :
    exec .encRd { State.reset with encIn := [0b01] } =
      .next { State.reset with encPrev := 0b01, completions := [.value 0x0001] } ∧
    exec .encRd { State.reset with encPrev := 0b01, encIn := [0b01] } =
      .next { State.reset with encPrev := 0b01, completions := [.value 0x0000] } := ⟨rfl, rfl⟩

/-- Rows of R165: 11 to 10, 11 to 00, 01 to 10, 00 to 01 (Q2, Q4, Q9, Q10). -/
theorem test_encRotation_vectors :
    encResponse 0b11 0b10 = 0xFFFF ∧ encResponse 0b11 0b00 = 0 ∧ encResponse 0b01 0b10 = 0 ∧
    encResponse 0b00 0b01 = 0 := by decide

/-- With no sample listed the value is free: the command still runs and takes it (U10). -/
theorem test_encRd_free_sample :
    ∃ t, exec .encRd State.reset = .next t ∧ t.encPrev = Config.encDraw 0 ∧ t.draws = 1 := ⟨_, rfl, rfl, rfl⟩

/-! ### One micro-step, one event, one turn -/

/-- T8, X1, X2. -/
theorem test_compareMatch :
    (compareMatch { timing with tick := 0xFFFF }).tick = 0 ∧ compareMatch timing = { timing with tick := 5 } ∧
    compareMatch State.reset = State.reset := ⟨by decide, rfl, by decide⟩

/-- W3's polls, and equality ends the loop. -/
theorem test_wPoll : (seqStep (waiting 0 1)).seq = .wPoll ∧ (seqStep (waiting 1 1)).seq = .wStop := by decide

/-- W10, at widths 8 and 16. -/
theorem test_unrepresentable_wait : pollGoesOn (0xFF : BitVec 8) (256 : BitVec 16) = true := by decide

/-- ST1's S_LOOP line. -/
theorem test_sLoop_drives :
    seqStep { State.reset with seq := .sLoop, rem := 1 } = { State.reset with
      coil := 0b0010, coilOut := 0b0010, rate := .slow, cmp := Config.cmpSlow, tie := true, gie := true,
      wtgt := 2, ret := .toStep, seq := .wPoll } := rfl

/-- ST2's last two lines. -/
theorem test_step_0_ends :
    seqStep { resting with seq := .sLoop } = { resting with seq := .clear } ∧
    seqStep { resting with seq := .clear, coilOut := 0b0001 } = { resting with completions := [.done] } := by decide

/-- W6: two listed compare-matches of a wait have a poll between them. -/
theorem test_no_two_ticks_without_a_poll :
    ∃ t u, step { waiting 0 5 with turns := [.tick, .tick] } = .next t ∧ t.tick = 1 ∧
      step t = .next u ∧ u.tick = 1 ∧ u.turns = [.tick] := ⟨_, _, rfl, rfl, rfl, rfl, rfl⟩

/-- The host's probe: the very next step runs the word. -/
theorem test_withFetchWord :
    step (State.reset.withFetchWord 24 0x500401) =
      .next { State.reset with seq := .sLoop, rem := 4, dirl := .cw } ∧
    step (State.reset.withFetchWord 24 0x210000) = .refused .reservedZ := ⟨rfl, rfl⟩

/-- X3: the two orders of TICK_RD and one TICK event. -/
theorem test_tickRd_before_or_after :
    (∃ t, core.run 2 { presenting (encodeWord .tickRd) timing with turns := [.host, .tick] } = .next t ∧
      t.completions = [.value 0x0004]) ∧
    (∃ t, core.run 2 { presenting (encodeWord .tickRd) timing with turns := [.tick, .host] } = .next t ∧
      t.completions = [.value 0x0005]) := ⟨⟨_, rfl, rfl⟩, _, rfl, rfl⟩

/-! ### Witnesses: for every statement with hypotheses, concrete states and operands that meet them -/

theorem witness_EncodeOfDecodeIsIdentity : decode 0x5004FF = .ok (.step 4 0xFF) := by decide

/-- Each row is selected, at a boundary operand where it has one. -/
theorem witness_DecodeSelectsByMatchAndMask :
    opcodeRows.map (fun r => r.bits ||| ~~~r.mask) =
      [0x1000FF, 0x200000, 0x300000, 0x40FFFF, 0x50FFFF, 0x600000, 0x700000, 0x800000] ∧
    opcodeRows.all (fun r => (r.bits ||| ~~~r.mask) &&& r.mask = r.bits) = true := by decide

/-- Each kind of reserved word at its boundaries, and words just outside. -/
theorem witness_DecoderRefusesExactlyReservedWords :
    (ReservedWord 0x0FFFFF ∧ ReservedWord 0x900000 ∧ ReservedWord 0x4F0000 ∧ ReservedWord 0x200001 ∧
      ReservedWord 0x80FF00 ∧ ReservedWord 0x100100) ∧
    ¬ReservedWord 0x1000FF ∧ ¬ReservedWord 0x40FFFF ∧ ¬ReservedWord 0x800000 := by
  simp [ReservedWord]

/-- A HOST's turn listed, and a HOST's turn by the order of unlisted turns. -/
theorem witness_ReservedWordIsRefusedByName :
    (Presents (presenting { width := 24, bits := (0x900000 : CmdBits).toNat } State.reset)
      { width := 24, bits := (0x900000 : CmdBits).toNat } [] [] ∧ ReservedWord 0x900000) ∧
    Presents { State.reset with hostQueue := [.command { width := 24, bits := (0x200001 : CmdBits).toNat }] }
      { width := 24, bits := (0x200001 : CmdBits).toNat } [] [] ∧ ReservedWord 0x200001 := by
  simp [Presents, ReservedWord, presenting, State.reset]

theorem witness_WrongLengthWordIsRefused :
    (Presents (presenting { width := 23, bits := 0 } State.reset) { width := 23, bits := 0 } [] [] ∧ (23 : Nat) ≠ 24) ∧
    Presents (presenting { width := 24, bits := 2 ^ 24 } State.reset) { width := 24, bits := 2 ^ 24 } [] [] ∧
      2 ^ 24 ≤ (2 ^ 24 : Nat) := by
  unfold Presents
  decide

theorem witness_OutOfContractRateIsRefused :
    2 ≤ (0x02 : RateByte).toNat ∧ 2 ≤ (0xFF : RateByte).toNat ∧
    Presents (presenting { width := 24, bits := 0x100000 + (0x02 : RateByte).toNat } State.reset)
      { width := 24, bits := 0x100000 + (0x02 : RateByte).toNat } [] [] := by
  unfold Presents
  decide

theorem witness_StepRunsThePresentedCommand :
    Presents (presenting (encodeWord (.wait 65535)) timing) (encodeWord (.wait 65535)) [] [] ∧
    decodeWord (encodeWord (.wait 65535)) = .ok (.wait 65535) :=
  ⟨⟨rfl, rfl, .inl rfl⟩, by decide⟩

/-- A listed turn of each agent: a compare-match that is taken, one that is dropped, and one that waits for a poll. -/
theorem witness_StepTakesTheListedTurn :
    (presenting (encodeWord .tickRd) timing).turns = [.host] ∧
    { waiting 0 5 with turns := [.seq] }.turns = [.seq] ∧
    ({ timing with turns := [.tick] }.turns = [.tick] ∧ { timing with turns := [.tick] }.mustPoll = false ∧
      { timing with turns := [.tick] }.tickEnabled = true) ∧
    ({ State.reset with turns := [.tick] }.turns = [.tick] ∧
      { State.reset with turns := [.tick] }.tickEnabled = false) ∧
    ({ waiting 1 5 with turns := [.tick], pollOwed := true }.turns = [.tick] ∧
      { waiting 1 5 with turns := [.tick], pollOwed := true }.mustPoll = true) ∧
    { waiting 1 5 with turns := [.reset] }.turns = [.reset] := by decide

theorem witness_BusyBlockHoldsTheHost : (waiting 0 5).seq ≠ .idle := by decide

theorem witness_HostClearsGieWhenIdle :
    { timing with hostQueue := [.clearGie] }.seq = .idle ∧
    { timing with hostQueue := [.clearGie] }.hostQueue = .clearGie :: [] := by decide

theorem witness_TmrStartStartsTheTimer : 2 ≤ (0x02 : RateByte).toNat ∧ 2 ≤ (0xFF : RateByte).toNat := by decide

/-- The event enabled at the top of the counter, and disabled by each of its three conditions. -/
theorem witness_CompareMatchIncrementsTickOnly :
    ({ timing with tick := 0xFFFF }.rate ≠ .none ∧ { timing with tick := 0xFFFF }.tie = true ∧
      { timing with tick := 0xFFFF }.gie = true) ∧
    ¬({ timing with rate := .none }.rate ≠ .none ∧ timing.tie = true ∧ timing.gie = true) ∧
    ¬(timing.rate ≠ .none ∧ { timing with tie := false }.tie = true ∧ timing.gie = true) ∧
    ¬(timing.rate ≠ .none ∧ timing.tie = true ∧ { timing with gie := false }.gie = true) := by decide

/-- A step that keeps TICK, one that zeroes it, and one that increments it. -/
theorem witness_TickIsKeptZeroedOrIncremented :
    (∃ t, step { waiting 1 5 with turns := [.seq] } = .next t ∧ t.tick = 1) ∧
    (∃ t, step (presenting (encodeWord (.tmrStart 0x00)) timing) = .next t ∧ t.tick = 0) ∧
    (∃ t, step { timing with turns := [.tick] } = .next t ∧ t.tick = 5) := by
  exact ⟨⟨_, rfl, rfl⟩, ⟨_, rfl, rfl⟩, _, rfl, rfl⟩

theorem witness_WaitZeroWritesNoState : timing.seq = .idle := by decide

theorem witness_WaitStartsTheTimerAtSlow : (1 : Duration) ≠ 0 ∧ (65535 : Duration) ≠ 0 := by decide

/-- One below the target, the target itself, and the largest target. -/
theorem witness_PollComparesTheCounter :
    ((waiting 4 5).seq = .wPoll ∧ (waiting 4 5).tick.toNat < (waiting 4 5).wtgt.toNat) ∧
    ((waiting 5 5).seq = .wPoll ∧ ¬(waiting 5 5).tick.toNat < (waiting 5 5).wtgt.toNat) ∧
    ((waiting 0xFFFE 0xFFFF).seq = .wPoll ∧ (waiting 0xFFFE 0xFFFF).tick.toNat < (waiting 0xFFFE 0xFFFF).wtgt.toNat) ∧
    (waiting 0xFFFF 0xFFFF).seq = .wPoll ∧
      ¬(waiting 0xFFFF 0xFFFF).tick.toNat < (waiting 0xFFFF 0xFFFF).wtgt.toNat := by decide

theorem witness_StopStepReturnsWhereRetSays :
    ({ waiting 5 5 with seq := .wStop }.seq = .wStop ∧ { waiting 5 5 with seq := .wStop }.ret = .toIdle) ∧
    { waiting 5 5 with seq := .wStop, ret := .toStep }.ret = .toStep ∧
    { waiting 5 5 with seq := .wStop, ret := .toClear }.ret = .toClear := by decide

/-- A wait in flight meets the invariant: at the start, and at its target with the poll owed. -/
theorem waiting_inv : BlockInv (waiting 0 5) ∧ BlockInv { waiting 5 5 with pollOwed := true } :=
  ⟨⟨by decide, .inr (.inl ⟨rfl, rfl, rfl⟩), fun _ => ⟨rfl, rfl, rfl, rfl⟩, by decide, by decide, by decide⟩,
   by decide, .inr (.inl ⟨rfl, rfl, rfl⟩), fun _ => ⟨rfl, rfl, rfl, rfl⟩, by decide, by decide, by decide⟩

/-- About to stop, after an event that wrapped the counter (W7). -/
theorem wrapped_wait_inv : BlockInv { waiting 0 0xFFFF with seq := .wStop, pollOwed := true } :=
  ⟨by decide, .inr (.inl ⟨rfl, rfl, rfl⟩), fun _ => ⟨rfl, rfl, rfl, rfl⟩, by decide, by decide, by decide⟩

/-- A TICK event leaves the poll owed, a HOST's turn keeps it owed, and a SEQ's turn discharges it. -/
theorem witness_SeqMovesBetweenTwoTicksOfAWait :
    BlockInv { waiting 5 5 with pollOwed := true, turns := [.host] } ∧
    { waiting 5 5 with pollOwed := true, turns := [.host] }.inFlight = true ∧
    { waiting 5 5 with pollOwed := true, turns := [.host] }.turns.head? ≠ some .reset ∧
    (∃ t, step { waiting 5 5 with pollOwed := true, turns := [.host] } = .next t ∧ t.pollOwed = true) ∧
    (∃ t, step { waiting 5 5 with pollOwed := true, turns := [.seq] } = .next t ∧ t.pollOwed = false) ∧
    BlockInv (waiting 0 5) ∧ ticksNow (waiting 0 5) = true ∧ ∃ t, step (waiting 0 5) = .next t ∧ t.pollOwed = true :=
  ⟨⟨by decide, .inr (.inl ⟨rfl, rfl, rfl⟩), fun _ => ⟨rfl, rfl, rfl, rfl⟩, by decide, by decide, by decide⟩,
   by decide, by decide, ⟨_, rfl, rfl⟩, ⟨_, rfl, rfl⟩, waiting_inv.1, rfl, _, rfl, rfl⟩

/-- W10's widths, at the least duration an 8-bit counter cannot represent. -/
theorem witness_PollComparesAsNaturalsAtAllWidths : 2 ^ 8 ≤ (256 : BitVec 16).toNat := by decide

/-- What `BusyRun` says, computed: the state after `k` busy steps. -/
def afterBusy : Nat → State → Option State
  | 0, s => some s
  | k + 1, s =>
    if s.busy then
      match step s with
      | .next u => afterBusy k u
      | .fault _ => none
      | .refused _ => none
    else none

theorem busyRun_of_afterBusy {k : Nat} {s t : State} (h : afterBusy k s = some t) : BusyRun k s t := by
  induction k generalizing s with
  | zero => exact Option.some.inj h
  | succ k ih =>
    unfold afterBusy at h
    split at h
    · rename_i hb
      split at h
      · rename_i u hu
        exact ⟨hb, u, hu, ih h⟩
      · cases h
      · cases h
    · cases h

/-- W3: a `WAIT 1` with one TICK event. -/
theorem witness_WaitEndsAfterItsDuration :
    ∃ s s' t k, s.seq = .idle ∧ (1 : Duration) ≠ 0 ∧ Turn.reset ∉ s.turns ∧ s.turns = [.tick, .seq, .seq] ∧
      exec (.wait 1) s = .next s' ∧ BusyRun k s' t ∧ t.seq = .idle ∧ tickEvents k s' = 1 ∧ t.tick = 1 :=
  ⟨{ State.reset with turns := [.tick, .seq, .seq] }, _, _, 3, rfl, by decide, by decide, rfl, rfl,
   busyRun_of_afterBusy rfl, rfl, rfl, rfl⟩

/-- W4: the same wait with an event before the stop. -/
theorem witness_WaitEndsAfterItsDuration_overshoot :
    ∃ s s' t k, s.seq = .idle ∧ (1 : Duration) ≠ 0 ∧ Turn.reset ∉ s.turns ∧ s.turns = [.tick, .seq, .tick, .seq] ∧
      exec (.wait 1) s = .next s' ∧ BusyRun k s' t ∧ t.seq = .idle ∧ tickEvents k s' = 2 ∧ t.tick = 2 :=
  ⟨{ State.reset with turns := [.tick, .seq, .tick, .seq] }, _, _, 4, rfl, by decide, by decide, rfl, rfl,
   busyRun_of_afterBusy rfl, rfl, rfl, rfl⟩

theorem witness_EveryCommandInProgressEnds :
    BlockInv (waiting 0 5) ∧ (waiting 0 5).seq ≠ .idle ∧ Turn.reset ∉ (waiting 0 5).turns :=
  ⟨waiting_inv.1, by decide, by decide⟩

theorem witness_StepAcceptanceLatchesItsOperands :
    (0x00 : DirByte) ≠ 0x01 ∧ (0x00 : DirByte) ≠ 0xFF ∧ (0x80 : DirByte) ≠ 0x01 ∧ (0x80 : DirByte) ≠ 0xFF := by decide

theorem witness_LoopAdvancesDrivesAndWaits :
    ({ State.reset with seq := .sLoop }.seq = .sLoop ∧ { State.reset with seq := .sLoop }.rem = 0) ∧
    { State.reset with seq := .sLoop, rem := 1 }.rem ≠ 0 ∧ { State.reset with seq := .sLoop, rem := 255 }.rem ≠ 0 := by
  decide

theorem witness_ClearDeEnergizesAndResponds : { State.reset with seq := .clear }.seq = .clear := by decide

theorem witness_StepInitDrivesTheRestPattern :
    Config.stepInit.initWaitTicks ≠ 0 ∧ { Config.stepInit with initWaitTicks := 0 }.initWaitTicks = 0 := by decide

/-- ST7 with the fewest ticks. -/
theorem witness_StepRotatesAndEndsDeEnergized :
    ∃ s s' t k, s.seq = .idle ∧ Turn.reset ∉ s.turns ∧ TimerStopped s ∧ exec (.step 1 0xFF) s = .next s' ∧
      BusyRun k s' t ∧ t.seq = .idle ∧ t.coil = 0b1000 ∧ tickEvents k s' = 2 :=
  ⟨State.reset, _, _, 8, by decide, by decide, by decide, rfl, busyRun_of_afterBusy rfl, rfl, rfl, rfl⟩

/-- ST1 with an event before the stop. -/
theorem witness_StepRotatesAndEndsDeEnergized_clockwise :
    ∃ s s' t k, s.seq = .idle ∧ Turn.reset ∉ s.turns ∧ TimerStopped s ∧ exec (.step 1 0x01) s = .next s' ∧
      BusyRun k s' t ∧ t.seq = .idle ∧ t.coil = 0b0010 ∧ tickEvents k s' = 3 :=
  ⟨{ State.reset with turns := [.seq, .tick, .seq, .tick, .seq, .tick, .seq] }, _, _, 9, by decide, by decide, by decide,
   rfl, busyRun_of_afterBusy rfl, rfl, rfl, rfl⟩

/-- ST2 and ST3: no step is taken and the timer is not touched. -/
theorem witness_StepRotatesAndEndsDeEnergized_no_step :
    (∃ s' t k, exec (.step 0 0x01) resting = .next s' ∧ BusyRun k s' t ∧ t.seq = .idle ∧ t.tick = 9) ∧
    (∃ s' t k, exec (.step 3 0x00) resting = .next s' ∧ BusyRun k s' t ∧ t.seq = .idle ∧ t.tick = 9) ∧
    resting.seq = .idle ∧ Turn.reset ∉ resting.turns ∧ TimerStopped resting :=
  ⟨⟨_, _, 2, rfl, busyRun_of_afterBusy rfl, rfl, rfl⟩, ⟨_, _, 1, rfl, busyRun_of_afterBusy rfl, rfl, rfl⟩,
   by decide, by decide, by decide⟩

/-- ST12 and ST13 at the configured parameters, and ST15's INIT_WAIT_TICKS = 0. -/
theorem witness_StepInitEndsDeEnergized :
    (∃ t k, resting.seq = .idle ∧ Turn.reset ∉ resting.turns ∧ Config.stepInit.initWaitTicks ≠ 0 ∧
      BusyRun k (stepInitWith Config.stepInit resting) t ∧ t.seq = .idle ∧ t.coil = 0b0001 ∧ t.tick = 2) ∧
    ∃ p t k, p.initWaitTicks = 0 ∧ TimerStopped resting ∧ BusyRun k (stepInitWith p resting) t ∧ t.seq = .idle ∧
      t.coil = 0b0100 ∧ t.tick = 9 :=
  ⟨⟨_, 6, by decide, by decide, by decide, busyRun_of_afterBusy rfl, rfl, rfl, rfl⟩,
   { restPattern := 0b1000, initWaitTicks := 0, initResetsCoil := false }, _, 1, rfl, by decide,
   busyRun_of_afterBusy rfl, rfl, rfl, rfl⟩

/-- Both clauses of each port: a sample listed, and none. -/
theorem witness_PinReadDrawsOneSample :
    { State.reset with btnIn := [0b000000] }.btnIn = 0b000000 :: [] ∧ State.reset.btnIn = [] ∧
    { State.reset with encIn := [0b00] }.encIn = 0b00 :: [] ∧ State.reset.encIn = [] := by decide

theorem witness_ReadersCommuteWithTheInterrupt :
    (presenting (encodeWord .encRd) timing).seq = .idle ∧ (presenting (encodeWord .encRd) timing).pollOwed = false ∧
    (presenting (encodeWord .encRd) timing).hostQueue = .command (encodeWord .encRd) :: [] ∧
    decodeWord (encodeWord .encRd) = .ok .encRd ∧ decodeWord (encodeWord .btnRd) = .ok .btnRd := by decide

/-- One move along each part of the table. -/
theorem witness_SeqMovesOnlyAlongTheTable :
    (∃ t, step (presenting (encodeWord (.wait 1)) State.reset) = .next t ∧ t.seq = .wPoll) ∧
    (∃ t, step (presenting (encodeWord (.step 0 0x02)) State.reset) = .next t ∧ t.seq = .clear) ∧
    (∃ t, step (presenting (encodeWord (.step 1 0xFF)) State.reset) = .next t ∧ t.seq = .sLoop) ∧
    (∃ t, step (presenting (encodeWord .stepInit) State.reset) = .next t ∧ t.seq = .wPoll ∧ t.ret = .toClear) ∧
    (∃ t, step (waiting 5 5) = .next t ∧ t.seq = .wPoll ∧ t.tick = 6) ∧
    (∃ t, step { waiting 5 5 with turns := [.seq] } = .next t ∧ t.seq = .wStop) ∧
    (∃ t, step { waiting 5 5 with seq := .wStop, ret := .toClear } = .next t ∧ t.seq = .clear) ∧
    (∃ t, step { State.reset with seq := .sLoop, rem := 1 } = .next t ∧ t.seq = .wPoll) ∧
    (∃ t, step { State.reset with seq := .clear } = .next t ∧ t.seq = .idle) ∧
    (presenting (encodeWord (.wait 1)) State.reset).turns.head? ≠ some .reset :=
  ⟨⟨_, rfl, rfl⟩, ⟨_, rfl, rfl⟩, ⟨_, rfl, rfl⟩, ⟨_, rfl, rfl, rfl⟩, ⟨_, rfl, rfl, rfl⟩, ⟨_, rfl, rfl⟩, ⟨_, rfl, rfl⟩, ⟨_, rfl, rfl⟩, ⟨_, rfl, rfl⟩,
   by decide⟩

theorem witness_OneCompletionOnReturnToIdle :
    (∃ t, step { State.reset with seq := .clear } = .next t ∧ t.seq = .idle ∧ t.completions = [.done]) ∧
    (∃ t, step (waiting 5 5) = .next t ∧ t.seq ≠ .idle ∧ t.completions = []) ∧
    (∃ t, exec .tickRd timing = .next t ∧ t.seq = .idle ∧ t.completions = [.value 4]) ∧
    (∃ t, exec .stepInit timing = .next t ∧ t.seq ≠ .idle ∧ t.completions = []) ∧
    timing.seq = .idle ∧ { State.reset with seq := .clear }.turns.head? ≠ some .reset :=
  ⟨⟨_, rfl, rfl, rfl⟩, ⟨_, rfl, by decide, rfl⟩, ⟨_, rfl, rfl, rfl⟩, ⟨_, rfl, by decide, rfl⟩, rfl, by decide⟩

/-- GIE falls by the HOST's own step, and by a reset; a command keeps it. -/
theorem witness_OnlyTheHostClearsGie :
    (∃ t, step { timing with hostQueue := [.clearGie], turns := [.host] } = .next t ∧ t.gie = false) ∧
    (∃ t, step { timing with turns := [.reset] } = .next t ∧ t.gie = false) ∧
    (∃ t, exec .tmrStop timing = .next t ∧ t.gie = true) ∧ timing.gie = true :=
  ⟨⟨_, rfl, rfl⟩, ⟨_, rfl, rfl⟩, ⟨_, rfl, rfl⟩, rfl⟩

/-- Each cell's writer writes it. -/
theorem witness_CellsHaveOnlyTheirWriters :
    (∃ t, step (presenting (encodeWord .stepInit) resting) = .next t ∧ t.coilOe = 0b1111 ∧ t.coil = 0b0001) ∧
    (∃ t, step (presenting (encodeWord .encRd) { resting with encIn := [0b00] }) = .next t ∧ t.encPrev = 0b00) ∧
    (∃ t, step { resting with seq := .sLoop, rem := 1 } = .next t ∧ t.coil = 0b1000) ∧
    (presenting (encodeWord .stepInit) resting).turns.head? ≠ some .reset :=
  ⟨⟨_, rfl, rfl, rfl⟩, ⟨_, rfl, rfl⟩, ⟨_, rfl, rfl⟩, by decide⟩

/-- A step of a state that meets the invariant. -/
theorem witness_StepKeepsTheInvariant : BlockInv (waiting 0 5) ∧ ∃ t, step (waiting 0 5) = .next t ∧ t.tick = 1 :=
  ⟨waiting_inv.1, _, rfl, rfl⟩

/-- A driven line and an undriven one. -/
theorem witness_CoilLinesCarryTheLatch :
    { State.reset with coilOe := 0b1111 }.coilOe.getLsbD (3 : Fin 4) = true ∧
    State.reset.coilOe.getLsbD (0 : Fin 4) = false := by decide

end Sys2Proof.Tests
end

section
/-! The turn a step takes: one equation of `nextTurn`, of the timer's turn and of `step` per case, and from them O10. -/

namespace Sys2Proof.Machine

/-- No TICK event can be held back where none is enabled (40_timer.md R108, 41_wait.md R126). -/
theorem mustPoll_of_not_tickEnabled {s : State} (h : s.tickEnabled = false) : s.mustPoll = false := by
  simp [State.mustPoll, h]

theorem nextTurn_of_listed {s : State} {x : Turn} {ts : List Turn} (h : s.turns = x :: ts)
    (hx : x = .tick → s.mustPoll = false) : nextTurn s = (x, ts) := by
  unfold nextTurn
  rw [h]
  cases x with
  | tick => simp [hx rfl]
  | host => rfl
  | seq => rfl
  | reset => rfl

theorem nextTurn_of_tick_held {s : State} {ts : List Turn} (h : s.turns = .tick :: ts) (hm : s.mustPoll = true) :
    nextTurn s = (.seq, s.turns) := by
  simp [nextTurn, h, hm]

theorem tickTurn_of_enabled {s : State} (h : s.tickEnabled = true) :
    tickTurn s = { compareMatch s with pollOwed := s.inFlight } :=
  if_pos h

theorem tickTurn_of_not_enabled {s : State} (h : s.tickEnabled = false) : tickTurn s = s := by
  simp [tickTurn, compareMatch, h]

/-- `step` is the next agent's turn, in the state that keeps the turns left (20_memory.md R60). -/
theorem step_of_nextTurn {s : State} {x : Turn} {ts : List Turn} (h : nextTurn s = (x, ts)) :
    step s = runTurn x { s with turns := ts } := by
  simp only [step, oneStep, h]

theorem step_of_listed {s : State} {x : Turn} {ts : List Turn} (h : s.turns = x :: ts)
    (hx : x = .tick → s.mustPoll = false) : step s = runTurn x { s with turns := ts } :=
  step_of_nextTurn (nextTurn_of_listed h hx)

/-- A compare-match that is held back keeps the whole list, so the SEQ agent moves in `s` itself. -/
theorem step_of_tick_held {s : State} {ts : List Turn} (h : s.turns = .tick :: ts) (hm : s.mustPoll = true) :
    step s = .next (seqTurn s) :=
  step_of_nextTurn (nextTurn_of_tick_held h hm)

/-- Settles O10: each clause is `runTurn` of the head of the list, except a compare-match held back by R126, where the
SEQ agent moves. -/
theorem stepTakesTheListedTurn : Obligations.StepTakesTheListedTurn := by
  intro s ts
  refine ⟨?host, ?seq, ?tick, ?tickDropped, ?tickHeld, ?reset⟩
  case host => exact fun h => step_of_listed h nofun
  case seq => exact fun h => step_of_listed h nofun
  case tick =>
    intro h hm he
    rw [step_of_listed h fun _ => hm]
    exact congrArg Host.Outcome.next (tickTurn_of_enabled (s := { s with turns := ts }) he)
  case tickDropped =>
    intro h he
    rw [step_of_listed h fun _ => mustPoll_of_not_tickEnabled he]
    exact congrArg Host.Outcome.next (tickTurn_of_not_enabled (s := { s with turns := ts }) he)
  case tickHeld => exact step_of_tick_held
  case reset => exact fun h => step_of_listed h nofun

end Sys2Proof.Machine
end

section
/-! The cells across a step (10_state.md): which agent writes which of them, the invariant and the reset state; O19, O42,
O43, O45, O46, O47, O49. Each agent's turn has a lemma of its own, and each obligation joins them by `step_cases`. -/

namespace Sys2Proof.Machine

open Sys2Proof.Safety

/-! ### The wait as a subroutine, and STEP_INIT at the configured parameters -/

theorem callWait_cases (d : Duration) (r : Ret) (s : State) :
    callWait d r s = cont r s ∨ (d ≠ 0 ∧ callWait d r s = beginWait d r s) := by
  by_cases hd : d = 0
  · exact .inl (if_pos hd)
  · exact .inr ⟨hd, callWait_pos hd r s⟩

theorem callWait_tick_gie (d : Duration) (r : Ret) (s : State) :
    ((callWait d r s).tick = s.tick ∧ (callWait d r s).gie = s.gie) ∨
      ((callWait d r s).tick = 0 ∧ (callWait d r s).gie = true) := by
  rcases callWait_cases d r s with e | ⟨-, e⟩ <;> simp [e]

@[simp] theorem callWait_coil (d : Duration) (r : Ret) (s : State) : (callWait d r s).coil = s.coil := by
  rcases callWait_cases d r s with e | ⟨-, e⟩ <;> simp [e]

@[simp] theorem callWait_coilOe (d : Duration) (r : Ret) (s : State) : (callWait d r s).coilOe = s.coilOe := by
  rcases callWait_cases d r s with e | ⟨-, e⟩ <;> simp [e]

@[simp] theorem callWait_encPrev (d : Duration) (r : Ret) (s : State) : (callWait d r s).encPrev = s.encPrev := by
  rcases callWait_cases d r s with e | ⟨-, e⟩ <;> simp [e]

theorem stepInitWith_configured (s : State) :
    stepInitWith Config.stepInit s =
      beginWait 2 .toClear { s with coilOe := 0b1111, coil := 0b0001, coilOut := 0b0001 } :=
  rfl

/-! ### Writers of TICK and GIE: outside the interrupt, only the start of the timer (40_timer.md R101, R107) -/

theorem exec_tick_gie {i : Instr} {s t : State} (h : exec i s = .next t) :
    (t.tick = s.tick ∧ t.gie = s.gie) ∨ (t.tick = 0 ∧ t.gie = true) := by
  rcases exec_cases h with ⟨r, u, -, -, rfl⟩ | ⟨-, rfl⟩ | ⟨-, rfl⟩ | ⟨d, -, rfl⟩ | ⟨n, b, d, -, -, rfl⟩ |
    ⟨n, b, -, -, rfl⟩ | ⟨-, rfl⟩ | ⟨-, rfl⟩ | ⟨-, rfl⟩
  case inr.inr.inr.inl => exact callWait_tick_gie d .toIdle s
  all_goals simp [stepInitWith_configured]

theorem seqTurn_tick_gie (s : State) :
    ((seqTurn s).tick = s.tick ∧ (seqTurn s).gie = s.gie) ∨ ((seqTurn s).tick = 0 ∧ (seqTurn s).gie = true) := by
  rcases seqStep_cases s with ⟨-, e⟩ | ⟨-, -, e⟩ | ⟨-, -, e⟩ | ⟨-, e⟩ | ⟨-, -, e⟩ | ⟨-, -, e⟩ | ⟨-, e⟩ <;>
    simp [seqTurn, e]

theorem hostTurn_tick {s t : State} (h : hostTurn s = .next t) : t.tick = s.tick ∨ t.tick = 0 := by
  rcases hostTurn_cases h with ⟨-, rfl⟩ | ⟨rest, -, -, rfl⟩ | ⟨w, rest, i, -, -, -, he⟩
  · exact .inl rfl
  · exact .inl rfl
  · exact (exec_tick_gie he).imp And.left And.left

/-- No command clears GIE (10_state.md R29). -/
theorem exec_keeps_gie {i : Instr} {s t : State} (h : exec i s = .next t) (hg : s.gie = true) : t.gie = true := by
  rcases exec_tick_gie h with ⟨-, e⟩ | ⟨-, e⟩
  · rw [e, hg]
  · exact e

theorem seqTurn_keeps_gie {s : State} (hg : s.gie = true) : (seqTurn s).gie = true := by
  rcases seqTurn_tick_gie s with ⟨-, e⟩ | ⟨-, e⟩
  · rw [e, hg]
  · exact e

@[simp] theorem tickTurn_gie (s : State) : (tickTurn s).gie = s.gie := by
  rcases tickTurn_cases s with ⟨-, e⟩ | ⟨-, e⟩ <;> rw [e]

/-- Settles O19: HOST and SEQ keep TICK or start the timer, the compare-match adds one under its guard, and the reset
zeroes it. -/
theorem tickIsKeptZeroedOrIncremented : Obligations.TickIsKeptZeroedOrIncremented := by
  intro s t h
  obtain ⟨ts, -, ⟨-, hh⟩ | ⟨-, rfl⟩ | ⟨-, -, rfl⟩ | ⟨-, rfl⟩⟩ := step_cases h
  · exact (hostTurn_tick hh).imp_right .inl
  · rcases seqTurn_tick_gie { s with turns := ts } with ⟨e, -⟩ | ⟨e, -⟩
    · exact .inl e
    · exact .inr (.inl e)
  · rcases tickTurn_cases { s with turns := ts } with ⟨hg, e⟩ | ⟨-, e⟩ <;> rw [e]
    · obtain ⟨hrate, htie, hgie⟩ := (tickEnabled_iff _).1 hg
      exact .inr (.inr ⟨rfl, hrate, htie, hgie, rfl⟩)
    · exact .inl rfl
  · exact .inr (.inl rfl)

/-- Settles O42: of the turns that are not a reset, only the HOST's own step GIE <- 0 ends with GIE = 0 where it was 1. -/
theorem onlyTheHostClearsGie : Obligations.OnlyTheHostClearsGie := by
  refine ⟨fun s t h hs ht => ?_, fun i s t h hs => exec_keeps_gie h hs⟩
  have hcleared : ¬t.gie = true := by simp [ht]
  obtain ⟨ts, -, ⟨hn, hh⟩ | ⟨-, rfl⟩ | ⟨-, -, rfl⟩ | ⟨hn, -⟩⟩ := step_cases h
  · rcases hostTurn_cases hh with ⟨-, rfl⟩ | ⟨rest, hi, hq, -⟩ | ⟨w, rest, i, -, -, -, he⟩
    · exact (hcleared hs).elim
    · exact .inr ⟨hn, hi, rest, hq⟩
    · exact (hcleared (exec_keeps_gie he hs)).elim
  · exact (hcleared (seqTurn_keeps_gie hs)).elim
  · exact (hcleared ((tickTurn_gie _).trans hs)).elim
  · exact .inl (nextTurn_reset hn)

/-! ### Writers of COIL, COIL_OE and ENC_PREV (10_state.md R23, R24, R31) -/

theorem exec_coilCells_encPrev {i : Instr} {s t : State} (h : exec i s = .next t) :
    ((t.coil = s.coil ∧ t.coilOe = s.coilOe) ∨ (i = .stepInit ∧ t.coil = 0b0001 ∧ t.coilOe = 0b1111)) ∧
      (t.encPrev = s.encPrev ∨ i = .encRd) := by
  rcases exec_cases h with ⟨r, u, -, -, rfl⟩ | ⟨-, rfl⟩ | ⟨-, rfl⟩ | ⟨d, -, rfl⟩ | ⟨n, b, d, -, -, rfl⟩ |
    ⟨n, b, -, -, rfl⟩ | ⟨rfl, rfl⟩ | ⟨-, rfl⟩ | ⟨rfl, rfl⟩ <;>
    simp [stepInitWith_configured]

/-- The SEQ agent never writes COIL_OE or ENC_PREV, and writes COIL only where S_LOOP has a step to take. -/
theorem seqTurn_coilCells_encPrev (s : State) :
    (seqTurn s).coilOe = s.coilOe ∧ (seqTurn s).encPrev = s.encPrev ∧
      ((seqTurn s).coil = s.coil ∨
        (s.seq = .sLoop ∧ s.rem ≠ 0 ∧ (seqTurn s).coil = rotate s.dirl s.coil ∧
          (seqTurn s).coilOut = (seqTurn s).coil)) := by
  rcases seqStep_cases s with ⟨-, e⟩ | ⟨-, -, e⟩ | ⟨-, -, e⟩ | ⟨-, e⟩ | ⟨-, -, e⟩ | ⟨hq, hr, e⟩ | ⟨-, e⟩
  case inr.inr.inr.inr.inr.inl =>
    rw [seqTurn, e]
    exact ⟨rfl, rfl, .inr ⟨hq, hr, rfl, rfl⟩⟩
  all_goals simp [seqTurn, e]

@[simp] theorem tickTurn_coil (s : State) : (tickTurn s).coil = s.coil := by
  rcases tickTurn_cases s with ⟨-, e⟩ | ⟨-, e⟩ <;> rw [e]

@[simp] theorem tickTurn_coilOe (s : State) : (tickTurn s).coilOe = s.coilOe := by
  rcases tickTurn_cases s with ⟨-, e⟩ | ⟨-, e⟩ <;> rw [e]

@[simp] theorem tickTurn_encPrev (s : State) : (tickTurn s).encPrev = s.encPrev := by
  rcases tickTurn_cases s with ⟨-, e⟩ | ⟨-, e⟩ <;> rw [e]

/-- A HOST's turn with a word at the head of its queue presents it, whether the turn is listed or not. -/
theorem presents_of_hostTurn {s : State} {w : CmdWord} {q : List HostAct} (hn : (nextTurn s).1 = .host)
    (hi : s.seq = .idle) (hq : s.hostQueue = .command w :: q) : Presents s w q (nextTurn s).2 := by
  refine ⟨hi, hq, ?_⟩
  rcases nextTurn_cases s with ⟨hts, e⟩ | ⟨_, -, -, e⟩ | ⟨x, rest, hts, -, e⟩ <;> rw [e] at hn ⊢
  · exact .inr ⟨hts, rfl⟩
  · cases hn
  · exact .inl (hn ▸ hts)

/-- Settles O43: SEQ writes COIL only in its rotation, the compare-match none of the three cells, and the HOST only by the
command it presents. -/
theorem cellsHaveOnlyTheirWriters : Obligations.CellsHaveOnlyTheirWriters := by
  intro s t h hreset
  obtain ⟨ts, hts, ⟨hn, hh⟩ | ⟨-, rfl⟩ | ⟨-, -, rfl⟩ | ⟨hn, -⟩⟩ := step_cases h
  · rcases hostTurn_cases hh with ⟨-, rfl⟩ | ⟨rest, -, -, rfl⟩ | ⟨w, rest, i, hi, hq, hd, he⟩
    · exact ⟨absurd rfl, absurd rfl, absurd rfl⟩
    · exact ⟨absurd rfl, absurd rfl, absurd rfl⟩
    · have hp : Presents s w rest (nextTurn s).2 := presents_of_hostTurn hn hi hq
      obtain ⟨hcells, henc⟩ := exec_coilCells_encPrev he
      refine ⟨fun hne => ?coilOe, fun hne => ?encPrev, fun hne => ?coil⟩
      case coilOe =>
        rcases hcells with ⟨-, e⟩ | ⟨rfl, -, e⟩
        · exact absurd e hne
        · exact ⟨e, w, rest, _, hp, hd⟩
      case encPrev =>
        rcases henc with e | rfl
        · exact absurd e hne
        · exact ⟨w, rest, _, hp, hd⟩
      case coil =>
        rcases hcells with ⟨e, -⟩ | ⟨rfl, e, -⟩
        · exact absurd e hne
        · exact .inr ⟨e, w, rest, _, hp, hd⟩
  · obtain ⟨hoe, henc, hcoil⟩ := seqTurn_coilCells_encPrev { s with turns := ts }
    exact ⟨absurd hoe, absurd henc, fun hne => .inl (hcoil.resolve_left hne)⟩
  · exact ⟨absurd (tickTurn_coilOe _), absurd (tickTurn_encPrev _), absurd (tickTurn_coil _)⟩
  · exact absurd (nextTurn_reset hn) hreset

/-! ### The invariant (10_state.md R38 to R40, 41_wait.md R125 and R126, 70_reset_and_hazards.md R225) -/

theorem timerCellsTogether_doStart (u : RateUnit) (s : State) : TimerCellsTogether (doStart u s) := by
  cases u with
  | slow => exact .inr (.inl ⟨rfl, rfl, rfl⟩)
  | fast => exact .inr (.inr ⟨rfl, rfl, rfl⟩)

theorem timerCellsTogether_doStop (s : State) : TimerCellsTogether (doStop s) := .inl ⟨rfl, rfl, rfl⟩

/-- Outside a wait the clauses about a wait ask nothing. -/
theorem blockInv_of_not_inFlight {t : State} (hf : t.inFlight = false) (hcoil : CoilOneHot t)
    (htimer : TimerCellsTogether t) (hrest : t.seq = .idle → t.coilOut = 0) (hpoll : t.pollOwed = false) :
    BlockInv t where
  coilOneHot := hcoil
  timerCellsTogether := htimer
  waitHasTheTimer := by simp [hf]
  counterWithinWait := by
    have hq : t.seq ≠ .wPoll ∧ t.seq ≠ .wStop := by simpa [State.inFlight] using hf
    exact ⟨fun h => absurd h hq.1, fun h => absurd h hq.2⟩
  coilsRest := ⟨hrest, by simp [hf]⟩
  pollOwedOnlyInWait := by simp [hpoll]

/-- A wait of at least one tick starts within reach of its target; the coils need rest only in a WAIT. -/
theorem blockInv_beginWait {d : Duration} {r : Ret} {s : State} (hd : d ≠ 0) (hcoil : CoilOneHot s)
    (hrest : r = .toIdle → s.coilOut = 0) : BlockInv (beginWait d r s) where
  coilOneHot := hcoil
  timerCellsTogether := .inr (.inl ⟨rfl, rfl, rfl⟩)
  waitHasTheTimer _ := ⟨rfl, rfl, rfl, rfl⟩
  counterWithinWait := by
    have hpos : 0 < d.toNat := Nat.pos_of_ne_zero fun e => hd (BitVec.eq_of_toNat_eq e)
    exact ⟨fun _ => ⟨hd, .inl hpos⟩, nofun⟩
  coilsRest := ⟨nofun, fun _ => hrest⟩
  pollOwedOnlyInWait _ := rfl

theorem blockInv_resetCells (s : State) : BlockInv (resetCells s) :=
  blockInv_of_not_inFlight rfl (.inl rfl) (.inl ⟨rfl, rfl, rfl⟩) (fun _ => rfl) rfl

/-- The HOST's queue and the list of turns are no cells of the block. -/
theorem blockInv_afterFetch {s : State} (hs : BlockInv s) (q : List HostAct) (ts : List Turn) :
    BlockInv (afterFetch s q ts) :=
  ⟨hs.coilOneHot, hs.timerCellsTogether, hs.waitHasTheTimer, hs.counterWithinWait, hs.coilsRest, hs.pollOwedOnlyInWait⟩

/-- From an idle state, what keeps the coil cells, owes no poll and starts no wait need only keep the timer's cells
together. -/
theorem blockInv_of_idle {s t : State} (hs : BlockInv s) (hi : s.seq = .idle) (hf : t.inFlight = false)
    (hcoil : t.coil = s.coil) (hout : t.coilOut = s.coilOut) (hpoll : t.pollOwed = s.pollOwed)
    (htimer : TimerCellsTogether t) : BlockInv t := by
  have hp : s.pollOwed = false := by
    have h : s.pollOwed = true → s.inFlight = true := hs.pollOwedOnlyInWait
    simpa [State.inFlight, hi] using h
  refine blockInv_of_not_inFlight hf ?_ htimer (fun _ => hout.trans (hs.coilsRest.1 hi)) (hpoll.trans hp)
  have h := hs.coilOneHot
  rwa [CoilOneHot, ← hcoil] at h

theorem exec_keeps_blockInv {i : Instr} {s t : State} (hs : BlockInv s) (hi : s.seq = .idle)
    (h : exec i s = .next t) : BlockInv t := by
  have hf : s.inFlight = false := by simp [State.inFlight, hi]
  rcases exec_cases h with ⟨r, u, -, -, rfl⟩ | ⟨-, rfl⟩ | ⟨-, rfl⟩ | ⟨d, -, rfl⟩ | ⟨n, b, d, -, -, rfl⟩ |
    ⟨n, b, -, -, rfl⟩ | ⟨-, rfl⟩ | ⟨-, rfl⟩ | ⟨-, rfl⟩
  · exact blockInv_of_idle hs hi hf rfl rfl rfl (timerCellsTogether_doStart u s)
  · exact blockInv_of_idle hs hi hf rfl rfl rfl (timerCellsTogether_doStop s)
  · exact blockInv_of_idle hs hi hf rfl rfl rfl hs.timerCellsTogether
  · rcases callWait_cases d .toIdle s with e | ⟨hd, e⟩ <;> rw [e]
    · exact blockInv_of_idle hs hi rfl rfl rfl rfl hs.timerCellsTogether
    · exact blockInv_beginWait hd hs.coilOneHot fun _ => hs.coilsRest.1 hi
  · exact blockInv_of_idle hs hi rfl rfl rfl rfl hs.timerCellsTogether
  · exact blockInv_of_idle hs hi rfl rfl rfl rfl hs.timerCellsTogether
  · exact blockInv_beginWait (by decide) (.inl rfl) nofun
  · rcases pinReadBtn_cases s with ⟨v, rest, -, e⟩ | ⟨-, e⟩ <;> rw [e] <;>
      exact blockInv_of_idle hs hi hf rfl rfl rfl hs.timerCellsTogether
  · rcases pinReadEnc_cases s with ⟨v, rest, -, e⟩ | ⟨-, e⟩ <;> rw [e] <;>
      exact blockInv_of_idle hs hi hf rfl rfl rfl hs.timerCellsTogether

theorem hostTurn_keeps_blockInv {s t : State} (hs : BlockInv s) (h : hostTurn s = .next t) : BlockInv t := by
  rcases hostTurn_cases h with ⟨-, rfl⟩ | ⟨rest, hi, -, rfl⟩ | ⟨w, rest, i, hi, -, -, he⟩
  · exact hs
  · have hf : s.inFlight = false := by simp [State.inFlight, hi]
    exact blockInv_of_idle hs hi hf rfl rfl rfl hs.timerCellsTogether
  · exact exec_keeps_blockInv (blockInv_afterFetch hs rest s.turns) hi he

/-- A poll that goes on leaves the counter below its target, and one that ends the loop leaves it at the target: so no
poll need be owed after a step of the SEQ agent. -/
theorem seqTurn_keeps_blockInv {s : State} (hs : BlockInv s) : BlockInv (seqTurn s) := by
  have hcoil := hs.coilOneHot
  have htimer := hs.timerCellsTogether
  unfold seqTurn
  rcases seqStep_cases s with ⟨hq, e⟩ | ⟨hq, hlt, e⟩ | ⟨hq, hle, e⟩ | ⟨hq, e⟩ | ⟨-, -, e⟩ | ⟨-, -, e⟩ | ⟨-, e⟩ <;>
    rw [e]
  · have hf : s.inFlight = false := by simp [State.inFlight, hq]
    exact blockInv_of_not_inFlight hf hcoil htimer hs.coilsRest.1 rfl
  · have hw := (hs.counterWithinWait.1 hq).1
    have hstop : s.seq ≠ .wStop := by simp [hq]
    exact ⟨hcoil, htimer, hs.waitHasTheTimer, ⟨fun _ => ⟨hw, .inl hlt⟩, fun h => absurd h hstop⟩, hs.coilsRest, nofun⟩
  · have hf : s.inFlight = true := (inFlight_iff s).2 (.inl hq)
    obtain ⟨hw, hreach⟩ := hs.counterWithinWait.1 hq
    have heq : s.tick.toNat = s.wtgt.toNat := by omega
    exact ⟨hcoil, htimer, fun _ => hs.waitHasTheTimer hf, ⟨nofun, fun _ => ⟨hw, .inl heq⟩⟩,
      ⟨nofun, fun _ => hs.coilsRest.2 hf⟩, nofun⟩
  · have hrest := hs.coilsRest.2 ((inFlight_iff s).2 (.inr hq))
    have hstopped := timerCellsTogether_doStop s
    cases hr : s.ret with
    | toIdle => exact blockInv_of_not_inFlight rfl hcoil hstopped (fun _ => hrest hr) rfl
    | toStep => exact blockInv_of_not_inFlight rfl hcoil hstopped nofun rfl
    | toClear => exact blockInv_of_not_inFlight rfl hcoil hstopped nofun rfl
  · exact blockInv_of_not_inFlight rfl hcoil htimer nofun rfl
  · exact blockInv_beginWait (s := { s with
      coil := rotate s.dirl s.coil, coilOut := rotate s.dirl s.coil, rem := dec s.rem, pollOwed := false })
      (show (2 : Duration) ≠ 0 by decide) (rotate_oneHot s.dirl hcoil) nofun
  · exact blockInv_of_not_inFlight rfl hcoil htimer (fun _ => rfl) rfl

/-- R126 is what keeps the counter within reach: an event comes only when no poll is owed, so it adds at most one to a
counter that the last poll saw below, or at, the target. -/
theorem tickTurn_keeps_blockInv {s : State} (hs : BlockInv s) (hm : s.mustPoll = false) : BlockInv (tickTurn s) := by
  rcases tickTurn_cases s with ⟨hen, e⟩ | ⟨-, e⟩ <;> rw [e]
  · have hclear : s.inFlight = true → s.pollOwed ≠ true := by
      simpa [State.mustPoll, hen] using hm
    refine ⟨hs.coilOneHot, hs.timerCellsTogether, hs.waitHasTheTimer, ⟨fun hq => ?poll, fun hq => ?stop⟩, hs.coilsRest, id⟩
    case poll =>
      have hf : s.inFlight = true := (inFlight_iff s).2 (.inl hq)
      obtain ⟨hw, hreach⟩ := hs.counterWithinWait.1 hq
      have hlt : s.tick.toNat < s.wtgt.toNat := hreach.resolve_right fun h => hclear hf h.2
      have hd := duration_lt s.wtgt
      have hinc : (inc s.tick).toNat = s.tick.toNat + 1 := by rw [inc_tick_toNat]; omega
      exact ⟨hw, (Nat.lt_or_eq_of_le (hinc ▸ hlt)).imp_right fun h => ⟨h, hf⟩⟩
    case stop =>
      have hf : s.inFlight = true := (inFlight_iff s).2 (.inr hq)
      obtain ⟨hw, hreach⟩ := hs.counterWithinWait.2 hq
      have heq : s.tick.toNat = s.wtgt.toNat := hreach.resolve_right fun h => hclear hf h.2
      exact ⟨hw, .inr ⟨heq ▸ inc_tick_toNat s.tick, hf⟩⟩
  · exact hs

/-- Settles O45: each agent's turn keeps the invariant, the compare-match because R126 holds it back while a poll is owed. -/
theorem stepKeepsTheInvariant : Obligations.StepKeepsTheInvariant := by
  intro s t hs h
  obtain ⟨ts, -, hturn⟩ := step_cases h
  have hts : BlockInv { s with turns := ts } := blockInv_afterFetch hs s.hostQueue ts
  rcases hturn with ⟨-, hh⟩ | ⟨-, rfl⟩ | ⟨-, hm, rfl⟩ | ⟨-, rfl⟩
  · exact hostTurn_keeps_blockInv hts hh
  · exact seqTurn_keeps_blockInv hts
  · exact tickTurn_keeps_blockInv hts hm
  · exact blockInv_resetCells { s with turns := ts }

/-! ### The reset state and the coil lines (10_state.md R30, R31, R41) -/

/-- Settles O46: the reset state is the one a reset of itself leads to. -/
theorem resetMeetsTheInvariant : Obligations.ResetMeetsTheInvariant := blockInv_resetCells State.reset

/-- Settles O47, cell by cell. -/
theorem resetStateHasTheSpecsValues : Obligations.ResetStateHasTheSpecsValues :=
  ⟨rfl, rfl, rfl, rfl, rfl, rfl, rfl, rfl, rfl, rfl⟩

theorem coilLine_of_driven {s : State} {i : Fin 4} (h : s.coilOe.getLsbD i = true) :
    s.coilLine i = some (s.coilOut.getLsbD i) :=
  if_pos h

theorem coilLine_of_not_driven {s : State} {i : Fin 4} (h : s.coilOe.getLsbD i = false) : s.coilLine i = none :=
  if_neg (h ▸ Bool.false_ne_true)

/-- Settles O49: the two values of the line's COIL_OE bit. -/
theorem coilLinesCarryTheLatch : Obligations.CoilLinesCarryTheLatch :=
  fun _ _ => ⟨coilLine_of_driven, coilLine_of_not_driven⟩

end Sys2Proof.Machine
end

section
/-! The two ports of 20_memory.md: a word presented at the command port (R54), and a sample drawn by a PinRead (R52); O6,
O38. -/

namespace Sys2Proof.Machine

open Sys2Proof.Safety

/-! ### The step that accepts a presented word (30_encoding.md R70, R74) -/

theorem nextTurn_of_presents {s : State} {w : CmdWord} {q : List HostAct} {ts : List Turn} (h : Presents s w q ts) :
    nextTurn s = (.host, ts) := by
  obtain ⟨hi, hq, hts | ⟨hts, rfl⟩⟩ := h
  · exact nextTurn_of_listed hts nofun
  · simp [nextTurn, hts, fallbackTurn, hi, hq]

theorem hostTurn_of_command {s : State} {w : CmdWord} {q : List HostAct} (hi : s.seq = .idle)
    (hq : s.hostQueue = .command w :: q) : hostTurn s = accept w { s with hostQueue := q } := by
  simp [hostTurn, State.busy, hi, hq]

theorem step_of_presents {s : State} {w : CmdWord} {q : List HostAct} {ts : List Turn} (h : Presents s w q ts) :
    step s = accept w (afterFetch s q ts) := by
  have hn : nextTurn s = (.host, ts) := nextTurn_of_presents h
  obtain ⟨hi, hq, -⟩ := h
  exact (step_of_nextTurn hn).trans (hostTurn_of_command (s := { s with turns := ts }) hi hq)

theorem accept_of_error {w : CmdWord} {e : DecodeError} (h : decodeWord w = .error e) (s : State) :
    accept w s = .refused (refusalOf e) := by
  simp only [accept, h]

/-! ### Words that are not exactly 24 bits (R54) -/

theorem wellFormed_eq_false_iff (w : CmdWord) : w.wellFormed = false ↔ w.width ≠ 24 ∨ 2 ^ 24 ≤ w.bits := by
  simp [CmdWord.wellFormed, imp_iff_not_or]

theorem decodeWord_of_not_wellFormed {w : CmdWord} (h : w.wellFormed = false) : decodeWord w = .error .wrongLength := by
  simp [decodeWord, h]

/-- Settles O6: such a word fails the length check of the decoder before any field of it is read. -/
theorem wrongLengthWordIsRefused : Obligations.WrongLengthWordIsRefused := by
  intro s w q ts hp hw
  have hd : decodeWord w = .error .wrongLength := decodeWord_of_not_wellFormed ((wellFormed_eq_false_iff w).2 hw)
  exact (step_of_presents hp).trans (accept_of_error hd _)

/-! ### A PinRead (R52) -/

theorem pinReadBtn_of_listed {s : State} {v : BtnSample} {rest : List BtnSample} (h : s.btnIn = v :: rest) :
    pinReadBtn s = (v, { s with btnIn := rest }) := by
  simp only [pinReadBtn, h]

theorem pinReadBtn_of_none_listed {s : State} (h : s.btnIn = []) :
    pinReadBtn s = (Config.btnDraw s.draws, { s with draws := s.draws + 1 }) := by
  simp only [pinReadBtn, h]

theorem pinReadEnc_of_listed {s : State} {v : EncSample} {rest : List EncSample} (h : s.encIn = v :: rest) :
    pinReadEnc s = (v, { s with encIn := rest }) := by
  simp only [pinReadEnc, h]

theorem pinReadEnc_of_none_listed {s : State} (h : s.encIn = []) :
    pinReadEnc s = (Config.encDraw s.draws, { s with draws := s.draws + 1 }) := by
  simp only [pinReadEnc, h]

/-- Settles O38: each port, with a sample listed and with none. -/
theorem pinReadDrawsOneSample : Obligations.PinReadDrawsOneSample :=
  fun _ => ⟨fun _ _ => pinReadBtn_of_listed, pinReadBtn_of_none_listed,
    fun _ _ => pinReadEnc_of_listed, pinReadEnc_of_none_listed⟩

end Sys2Proof.Machine
end

section
/-! The command word and the command port (30_encoding.md): decoder and encoder are inverse to each other (R72 to R75), the
reserved words are what the decoder refuses (R78), a presented word runs or is refused (R70, R74, R76), and a command
completes when SEQ is back at IDLE (R71); O1 to O5, O7 to O9, O11, O41. -/

namespace Sys2Proof

open Sys2Proof.Safety

/-! ### The operand bytes of a word (R72) -/

theorem fieldImm16_eq_zero_iff (w : CmdBits) : fieldImm16 w = 0 ↔ fieldA w = 0 ∧ fieldB w = 0 := by
  have h := fieldImm16_eq w
  rw [← BitVec.toNat_inj, ← BitVec.toNat_inj, ← BitVec.toNat_inj]
  simp only [BitVec.ofNat_eq_ofNat, BitVec.toNat_ofNat, Nat.zero_mod]
  omega

theorem fieldImm16_eq_append (w : CmdBits) : fieldImm16 w = fieldA w ++ fieldB w :=
  (BitVec.extractLsb'_append_extractLsb'_eq_extractLsb' (x := w) (start₁ := 0) (len₁ := 8) (len₂ := 8) rfl).symm

/-- A ++ B splits in one way, so a word's operand bytes are the ones it was assembled from. -/
theorem fieldA_fieldB_encode {i : Instr} {a b : BitVec 8} (h : i.operandBits = a ++ b) :
    fieldA (encode i) = a ∧ fieldB (encode i) = b := by
  have e : fieldA (encode i) ++ fieldB (encode i) = a ++ b := by
    rw [← fieldImm16_eq_append, fieldImm16_encode, h]
  constructor
  · simpa only [BitVec.extractLsb'_append_eq_left] using congrArg (BitVec.extractLsb' 8 8) e
  · simpa only [BitVec.extractLsb'_append_eq_right] using congrArg (BitVec.extractLsb' 0 8) e

theorem encode_of_highBits {w : CmdBits} {i : Instr} (hhigh : w.toNat / 2 ^ 16 = i.opcode.toNat * 16)
    (himm : fieldImm16 w = i.operandBits) : encode i = w := by
  apply BitVec.eq_of_toNat_eq
  rw [encode_toNat, ← himm, fieldImm16_toNat]
  omega

/-- A word is the encoding of a command that has its opcode and its operands, when Z is 0000. -/
theorem encode_of_fields {w : CmdBits} {i : Instr} (hop : (fieldOp w).toNat = i.opcode.toNat) (hz : fieldZ w = 0)
    (himm : fieldImm16 w = i.operandBits) : encode i = w := by
  have hz' : (fieldZ w).toNat = 0 := by rw [hz]; rfl
  rw [fieldOp_toNat] at hop
  rw [fieldZ_toNat] at hz'
  exact encode_of_highBits (by omega) himm

/-! ### The operands that a word's fields hold (R75) -/

theorem fieldImm16_of_rate {w : CmdBits} (ha : fieldA w = 0) :
    fieldImm16 w = (Instr.tmrStart (fieldB w)).operandBits := by
  rw [fieldImm16_eq_append, ha]; rfl

theorem fieldImm16_of_duration (w : CmdBits) : fieldImm16 w = (Instr.wait (fieldImm16 w)).operandBits :=
  (BitVec.setWidth_eq _).symm

theorem fieldImm16_of_step (w : CmdBits) : fieldImm16 w = (Instr.step (fieldA w) (fieldB w)).operandBits :=
  fieldImm16_eq_append w

/-! ### The decoder on an encoded word -/

@[simp] theorem withZ_encode (i : Instr) (r : Except DecodeError Instr) : withZ (encode i) r = r :=
  if_pos (fieldZ_encode i)

theorem formatN_encode {i : Instr} (h : i.operandBits = 0) : formatN i (encode i) = .ok i :=
  if_pos ((fieldImm16_eq_zero_iff _).1 ((fieldImm16_encode i).trans h))

theorem formatR_encode (r : RateByte) : formatR (encode (.tmrStart r)) = .ok (.tmrStart r) := by
  obtain ⟨ha, hb⟩ := fieldA_fieldB_encode (i := .tmrStart r) (a := 0) (b := r) rfl
  simp [formatR, ha, hb]

theorem decode_encode (i : Instr) : decode (encode i) = .ok i := by
  unfold decode
  rw [fieldOp_encode]
  simp only [withZ_encode]
  cases i with
  | tmrStart r => exact formatR_encode r
  | tmrStop => exact formatN_encode rfl
  | tickRd => exact formatN_encode rfl
  | wait d => simp [Instr.opcode, Instr.operandBits]
  | step n dir =>
    obtain ⟨ha, hb⟩ := fieldA_fieldB_encode (i := .step n dir) (a := n) (b := dir) rfl
    simp [Instr.opcode, ha, hb]
  | stepInit => exact formatN_encode rfl
  | btnRd => exact formatN_encode rfl
  | encRd => exact formatN_encode rfl

theorem decodeWord_of_cmdBits (w : CmdBits) : decodeWord { width := 24, bits := w.toNat } = decode w := by
  simp [decodeWord, CmdWord.wellFormed, w.isLt]

theorem decodeWord_encodeWord (i : Instr) : decodeWord (encodeWord i) = .ok i :=
  (decodeWord_of_cmdBits (encode i)).trans (decode_encode i)

/-- Settles O1: OP selects the command's own branch, and the operand fields are the operands. -/
theorem decodeOfEncodeIsIdentity : Obligations.DecodeOfEncodeIsIdentity :=
  fun i => ⟨decodeWord_encodeWord i, decode_encode i⟩

/-! ### What the decoder accepts is an encoding -/

theorem withZ_eq_ok {w : CmdBits} {r : Except DecodeError Instr} {i : Instr} (h : withZ w r = .ok i) :
    fieldZ w = 0 ∧ r = .ok i := by
  unfold withZ at h
  split at h
  · exact ⟨‹_›, h⟩
  · cases h

theorem formatN_eq_ok {w : CmdBits} {i j : Instr} (h : formatN i w = .ok j) : fieldImm16 w = 0 ∧ j = i := by
  unfold formatN at h
  split at h
  · cases h; exact ⟨(fieldImm16_eq_zero_iff w).2 ‹_›, rfl⟩
  · cases h

theorem formatR_eq_ok {w : CmdBits} {i : Instr} (h : formatR w = .ok i) : fieldA w = 0 ∧ i = .tmrStart (fieldB w) := by
  unfold formatR at h
  split at h
  · cases h; exact ⟨‹_›, by simp⟩
  · cases h

/-- A format N word is the encoding of the command its opcode names. -/
theorem encode_of_formatN {w : CmdBits} {i j : Instr} (h : withZ w (formatN j w) = .ok i)
    (hop : (fieldOp w).toNat = j.opcode.toNat) (hj : j.operandBits = 0) : encode i = w := by
  obtain ⟨hz, hn⟩ := withZ_eq_ok h
  obtain ⟨himm, rfl⟩ := formatN_eq_ok hn
  exact encode_of_fields hop hz (himm.trans hj.symm)

/-- The decoder's branches in the order of the opcode: TMR_START (format R), TMR_STOP and TICK_RD (format N), WAIT, STEP,
the three other commands of format N, and the reserved opcodes. -/
theorem encode_of_decode {w : CmdBits} {i : Instr} (h : decode w = .ok i) : encode i = w := by
  unfold decode at h
  split at h <;> rename_i hop
  · obtain ⟨hz, hr⟩ := withZ_eq_ok h
    obtain ⟨ha, rfl⟩ := formatR_eq_ok hr
    exact encode_of_fields hop hz (fieldImm16_of_rate ha)
  · exact encode_of_formatN h hop rfl
  · exact encode_of_formatN h hop rfl
  · obtain ⟨hz, hr⟩ := withZ_eq_ok h
    cases hr
    exact encode_of_fields hop hz (by simpa using fieldImm16_of_duration w)
  · obtain ⟨hz, hr⟩ := withZ_eq_ok h
    cases hr
    exact encode_of_fields hop hz (by simpa using fieldImm16_of_step w)
  · exact encode_of_formatN h hop rfl
  · exact encode_of_formatN h hop rfl
  · exact encode_of_formatN h hop rfl
  · cases h

/-- Settles O2: OP, Z and the operands of the decoded command are all the bits of the word. -/
theorem encodeOfDecodeIsIdentity : Obligations.EncodeOfDecodeIsIdentity := fun _ _ => encode_of_decode

/-- The words that decode to a command are its one encoding. -/
theorem decode_eq_ok_iff {w : CmdBits} {i : Instr} : decode w = .ok i ↔ encode i = w :=
  ⟨encode_of_decode, fun h => h ▸ decode_encode i⟩

/-! ### The opcode map (R73) -/

/-- Every command's word selects a row with its mnemonic. -/
theorem opcodeRow_selects_encode (i : Instr) : Laws.OpcodeRow.Statement i := by
  cases i with
  | tmrStart r => exact Laws.OpcodeRow.tmrStart r
  | tmrStop => exact Laws.OpcodeRow.tmrStop
  | tickRd => exact Laws.OpcodeRow.tickRd
  | wait d => exact Laws.OpcodeRow.wait d
  | step n dir => exact Laws.OpcodeRow.step n dir
  | stepInit => exact Laws.OpcodeRow.stepInit
  | btnRd => exact Laws.OpcodeRow.btnRd
  | encRd => exact Laws.OpcodeRow.encRd

theorem opcodeRow_eq_of_mnemonic :
    ∀ r ∈ opcodeRows, ∀ r' ∈ opcodeRows, r.mnemonic = r'.mnemonic → r = r' := by decide

/-- A word that selects a row is the encoding of a command with the row's mnemonic, its operands read from
the bits the row's mask leaves free. -/
theorem exists_encode_of_selects {w : CmdBits} {r : OpcodeRow} (hr : r ∈ opcodeRows) (h : r.selects w) :
    ∃ i : Instr, encode i = w ∧ i.mnemonic = r.mnemonic := by
  simp only [opcodeRows, List.mem_cons, List.not_mem_nil, or_false] at hr
  rcases hr with rfl | rfl | rfl | rfl | rfl | rfl | rfl | rfl
  · have hw : w.toNat / 2 ^ 8 = 0x1000 := (and_mask8 w _ (by decide)).1 h
    have ha : fieldA w = 0 := by
      apply BitVec.eq_of_toNat_eq
      rw [fieldA_toNat, hw]; rfl
    have hhigh : w.toNat / 2 ^ 16 = 0x1 * 16 := by omega
    exact ⟨.tmrStart (fieldB w), encode_of_highBits hhigh (fieldImm16_of_rate ha), rfl⟩
  · exact ⟨.tmrStop, ((and_mask0 w _).1 h).symm, rfl⟩
  · exact ⟨.tickRd, ((and_mask0 w _).1 h).symm, rfl⟩
  · have hw : w.toNat / 2 ^ 16 = 0x40 := (and_mask16 w _ (by decide)).1 h
    exact ⟨.wait (fieldImm16 w), encode_of_highBits hw (fieldImm16_of_duration w), rfl⟩
  · have hw : w.toNat / 2 ^ 16 = 0x50 := (and_mask16 w _ (by decide)).1 h
    exact ⟨.step (fieldA w) (fieldB w), encode_of_highBits hw (fieldImm16_of_step w), rfl⟩
  · exact ⟨.stepInit, ((and_mask0 w _).1 h).symm, rfl⟩
  · exact ⟨.btnRd, ((and_mask0 w _).1 h).symm, rfl⟩
  · exact ⟨.encRd, ((and_mask0 w _).1 h).symm, rfl⟩

theorem selects_iff_decode {w : CmdBits} {r : OpcodeRow} (hr : r ∈ opcodeRows) :
    r.selects w ↔ ∃ i, decode w = .ok i ∧ i.mnemonic = r.mnemonic := by
  simp only [decode_eq_ok_iff]
  constructor
  · exact exists_encode_of_selects hr
  · rintro ⟨i, rfl, hm⟩
    obtain ⟨r', hr', hm', hsel⟩ := opcodeRow_selects_encode i
    exact opcodeRow_eq_of_mnemonic r' hr' r hr (hm'.trans hm) ▸ hsel

/-- Settles O3: a row is selected by the encodings of its mnemonic's commands alone, a word encodes one command, and no two
rows share a mnemonic. -/
theorem decodeSelectsByMatchAndMask : Obligations.DecodeSelectsByMatchAndMask := by
  refine fun w => ⟨fun r hr => selects_iff_decode hr, fun r hr r' hr' h h' => ?_⟩
  obtain ⟨i, hi, hm⟩ := (selects_iff_decode hr).1 h
  obtain ⟨i', hi', hm'⟩ := (selects_iff_decode hr').1 h'
  have e : i = i' := Except.ok.inj (hi.symm.trans hi')
  exact opcodeRow_eq_of_mnemonic r hr r' hr' (by rw [← hm, ← hm', e])

/-! ### Reserved words (R78) -/

theorem reservedWord_iff (w : CmdBits) :
    ReservedWord w ↔
      (fieldOp w).toNat = 0 ∨ 9 ≤ (fieldOp w).toNat ∨ fieldZ w ≠ 0 ∨
        (((fieldOp w).toNat = 2 ∨ (fieldOp w).toNat = 3 ∨ (fieldOp w).toNat = 6 ∨ (fieldOp w).toNat = 7 ∨
          (fieldOp w).toNat = 8) ∧ (fieldA w ≠ 0 ∨ fieldB w ≠ 0)) ∨
        ((fieldOp w).toNat = 1 ∧ fieldA w ≠ 0) := by
  simp only [ReservedWord, ← fieldOp_toNat, ← fieldZ_toNat, ← fieldA_toNat, ← fieldB_toNat, ne_eq,
    ← BitVec.toNat_inj]
  rfl

theorem withZ_eq_error {w : CmdBits} {r : Except DecodeError Instr} {e : DecodeError} (h : withZ w r = .error e) :
    (fieldZ w ≠ 0 ∧ e = .reservedZ) ∨ r = .error e := by
  unfold withZ at h
  split at h
  · exact .inr h
  · cases h; exact .inl ⟨‹_›, rfl⟩

theorem formatN_eq_error {w : CmdBits} {i : Instr} {e : DecodeError} (h : formatN i w = .error e) :
    (fieldA w ≠ 0 ∨ fieldB w ≠ 0) ∧ e = .reservedOperand := by
  unfold formatN at h
  split at h
  · cases h
  · cases h; exact ⟨not_and_or.1 ‹_›, rfl⟩

theorem formatR_eq_error {w : CmdBits} {e : DecodeError} (h : formatR w = .error e) :
    fieldA w ≠ 0 ∧ e = .reservedOperand := by
  unfold formatR at h
  split at h
  · cases h
  · cases h; exact ⟨‹_›, rfl⟩

theorem reservedWord_of_withZ {w : CmdBits} {r : Except DecodeError Instr} {e : DecodeError} (h : withZ w r = .error e)
    (hr : r = .error e → ReservedWord w ∧ e ≠ .wrongLength) : ReservedWord w ∧ e ≠ .wrongLength := by
  rcases withZ_eq_error h with ⟨hz, rfl⟩ | he
  · exact ⟨(reservedWord_iff w).2 (.inr (.inr (.inl hz))), nofun⟩
  · exact hr he

theorem reservedWord_of_formatN {w : CmdBits} {i : Instr} {e : DecodeError} (h : withZ w (formatN i w) = .error e)
    (hop : (fieldOp w).toNat = 2 ∨ (fieldOp w).toNat = 3 ∨ (fieldOp w).toNat = 6 ∨ (fieldOp w).toNat = 7 ∨
      (fieldOp w).toNat = 8) : ReservedWord w ∧ e ≠ .wrongLength := by
  refine reservedWord_of_withZ h fun he => ?_
  obtain ⟨hab, rfl⟩ := formatN_eq_error he
  exact ⟨(reservedWord_iff w).2 (.inr (.inr (.inr (.inl ⟨hop, hab⟩)))), nofun⟩

/-- Whatever the decoder refuses is reserved, and is refused for one of R78's reasons. -/
theorem reservedWord_of_decode {w : CmdBits} {e : DecodeError} (h : decode w = .error e) :
    ReservedWord w ∧ e ≠ .wrongLength := by
  unfold decode at h
  split at h <;> rename_i hop
  · refine reservedWord_of_withZ h fun he => ?_
    obtain ⟨ha, rfl⟩ := formatR_eq_error he
    exact ⟨(reservedWord_iff w).2 (.inr (.inr (.inr (.inr ⟨hop, ha⟩)))), nofun⟩
  · exact reservedWord_of_formatN h (by simp [hop])
  · exact reservedWord_of_formatN h (by simp [hop])
  · exact reservedWord_of_withZ h nofun
  · exact reservedWord_of_withZ h nofun
  · exact reservedWord_of_formatN h (by simp [hop])
  · exact reservedWord_of_formatN h (by simp [hop])
  · exact reservedWord_of_formatN h (by simp [hop])
  · cases h
    have hop : (fieldOp w).toNat = 0 ∨ 9 ≤ (fieldOp w).toNat := by grind
    exact ⟨(reservedWord_iff w).2 (hop.imp_right .inl), nofun⟩

theorem not_reservedWord_encode (i : Instr) : ¬ReservedWord (encode i) := by
  rw [reservedWord_iff, fieldOp_encode, fieldZ_encode]
  cases i with
  | tmrStart r => simp [Instr.opcode, (fieldA_fieldB_encode (i := .tmrStart r) (a := 0) (b := r) rfl).1]
  | tmrStop => decide
  | tickRd => decide
  | wait d => simp [Instr.opcode]
  | step n dir => simp [Instr.opcode]
  | stepInit => decide
  | btnRd => decide
  | encRd => decide

theorem reservedWord_iff_error (w : CmdBits) : ReservedWord w ↔ ∃ e, decode w = .error e := by
  refine ⟨fun hw => ?_, fun ⟨e, he⟩ => (reservedWord_of_decode he).1⟩
  cases hd : decode w with
  | error e => exact ⟨e, rfl⟩
  | ok i => exact absurd (encode_of_decode hd ▸ hw) (not_reservedWord_encode i)

/-- Settles O4: the decoder answers a command or an error, the error on the reserved words alone. -/
theorem decoderRefusesExactlyReservedWords : Obligations.DecoderRefusesExactlyReservedWords := by
  refine fun w => ⟨reservedWord_iff_error w, ?_⟩
  rw [reservedWord_iff_error]
  cases decode w <;> simp

/-! ### Worked encodings (R84) -/

/-- Settles O8: the accepted words are encodings, and the three refused words are computed. -/
theorem workedEncodingsDecode : Obligations.WorkedEncodingsDecode :=
  ⟨decode_encode (.tmrStart 0x00), decode_encode (.tmrStart 0x01), decode_encode .tmrStop, decode_encode .tickRd,
    decode_encode (.wait 1000), decode_encode (.wait 65535), decode_encode (.step 4 0x01), decode_encode (.step 4 0xFF),
    decode_encode .stepInit, decode_encode .btnRd, decode_encode .encRd, by decide⟩

end Sys2Proof

namespace Sys2Proof.Machine

open Sys2Proof.Safety

/-! ### The command port (R70, R74) -/

theorem accept_of_ok {w : CmdWord} {i : Instr} (h : decodeWord w = .ok i) (s : State) : accept w s = exec i s := by
  simp only [accept, h]

theorem step_of_presents_ok {s : State} {w : CmdWord} {q : List HostAct} {ts : List Turn} {i : Instr}
    (hp : Presents s w q ts) (hd : decodeWord w = .ok i) : step s = exec i (afterFetch s q ts) :=
  (step_of_presents hp).trans (accept_of_ok hd _)

/-- Settles O9: the presented word is accepted, and acceptance of a word that decodes is `exec` of its command. -/
theorem stepRunsThePresentedCommand : Obligations.StepRunsThePresentedCommand :=
  fun _ _ _ _ _ => step_of_presents_ok

theorem hostTurn_of_busy {s : State} (h : s.seq ≠ .idle) : hostTurn s = .next s :=
  if_pos ((busy_iff s).2 h)

/-- Settles O11: BUSY is what the HOST's turn asks first. -/
theorem busyBlockHoldsTheHost : Obligations.BusyBlockHoldsTheHost := fun _ => hostTurn_of_busy

/-- Settles O5: the decoder refuses a reserved word, and never for its length. -/
theorem reservedWordIsRefusedByName : Obligations.ReservedWordIsRefusedByName := by
  intro s w q ts hp hw
  obtain ⟨e, he⟩ := (reservedWord_iff_error w).1 hw
  have hlength : e ≠ .wrongLength := (reservedWord_of_decode he).2
  have hstep : step s = .refused (refusalOf e) :=
    (step_of_presents hp).trans (accept_of_error ((decodeWord_of_cmdBits w).trans he) _)
  cases e with
  | wrongLength => exact absurd rfl hlength
  | reservedOpcode => exact .inl hstep
  | reservedZ => exact .inr (.inl hstep)
  | reservedOperand => exact .inr (.inr hstep)

/-! ### Rates out of contract (R76) -/

theorem rateOf_of_two_le {b : RateByte} (h : 2 ≤ b.toNat) : rateOf b = none := by
  rcases rateOf_cases b with ⟨rfl, -⟩ | ⟨rfl, -⟩ | ⟨-, e⟩
  · exact absurd h (by decide)
  · exact absurd h (by decide)
  · exact e

theorem exec_tmrStart_of_two_le {b : RateByte} (h : 2 ≤ b.toNat) (s : State) :
    exec (.tmrStart b) s = .refused .rateOutOfContract := by
  simp only [exec, execTmrStart, rateOf_of_two_le h]

theorem encodeWord_tmrStart (b : RateByte) :
    encodeWord (.tmrStart b) = { width := 24, bits := 0x100000 + b.toNat } := by
  simp [encodeWord, encode_toNat, Instr.opcode]

/-- Settles O7: the word is TMR_START's encoding, so the step is the command's own refusal. -/
theorem outOfContractRateIsRefused : Obligations.OutOfContractRateIsRefused := by
  refine fun s q ts b hb => ⟨exec_tmrStart_of_two_le hb s, fun hp => ?_⟩
  rw [← encodeWord_tmrStart] at hp
  exact (step_of_presents_ok hp (decodeWord_encodeWord _)).trans (exec_tmrStart_of_two_le hb _)

/-! ### Completions (R71) -/

/-- From `s` to `t` the block gives the completion `c` if it is idle in `t`, and none otherwise. -/
def CompletesIfIdle (c : Completion) (s t : State) : Prop :=
  (t.seq = .idle ∧ t.completions = c :: s.completions) ∨ (t.seq ≠ .idle ∧ t.completions = s.completions)

theorem cont_completes (r : Ret) (s : State) : CompletesIfIdle .done s (cont r s) := by
  cases r with
  | toIdle => exact .inl ⟨rfl, rfl⟩
  | toStep => exact .inr ⟨nofun, rfl⟩
  | toClear => exact .inr ⟨nofun, rfl⟩

theorem callWait_completes (d : Duration) (r : Ret) (s : State) : CompletesIfIdle .done s (callWait d r s) := by
  rcases callWait_cases d r s with e | ⟨-, e⟩ <;> rw [e]
  · exact cont_completes r s
  · exact .inr ⟨nofun, rfl⟩

theorem exec_completes {i : Instr} {s t : State} (hi : s.seq = .idle) (h : exec i s = .next t) :
    ∃ c, CompletesIfIdle c s t := by
  rcases exec_cases h with ⟨r, u, -, -, rfl⟩ | ⟨-, rfl⟩ | ⟨-, rfl⟩ | ⟨d, -, rfl⟩ | ⟨n, b, d, -, -, rfl⟩ |
    ⟨n, b, -, -, rfl⟩ | ⟨-, rfl⟩ | ⟨-, rfl⟩ | ⟨-, rfl⟩
  · exact ⟨_, .inl ⟨hi, rfl⟩⟩
  · exact ⟨_, .inl ⟨hi, rfl⟩⟩
  · exact ⟨_, .inl ⟨hi, rfl⟩⟩
  · exact ⟨_, callWait_completes d .toIdle s⟩
  · exact ⟨.done, .inr ⟨nofun, rfl⟩⟩
  · exact ⟨.done, .inr ⟨nofun, rfl⟩⟩
  · exact ⟨_, callWait_completes _ .toClear _⟩
  · exact ⟨_, .inl ⟨(pinReadBtn_seq s).trans hi, congrArg (List.cons _) (pinReadBtn_completions s)⟩⟩
  · exact ⟨_, .inl ⟨(pinReadEnc_seq s).trans hi, congrArg (List.cons _) (pinReadEnc_completions s)⟩⟩

theorem seqTurn_completes {s : State} (hb : s.seq ≠ .idle) : CompletesIfIdle .done s (seqTurn s) := by
  unfold seqTurn
  rcases seqStep_cases s with ⟨hq, -⟩ | ⟨-, -, e⟩ | ⟨-, -, e⟩ | ⟨-, e⟩ | ⟨-, -, e⟩ | ⟨-, -, e⟩ | ⟨-, e⟩
  · exact absurd hq hb
  all_goals rw [e]
  · exact .inr ⟨hb, rfl⟩
  · exact .inr ⟨nofun, rfl⟩
  · exact cont_completes s.ret (doStop s)
  · exact .inr ⟨nofun, rfl⟩
  · exact .inr ⟨nofun, rfl⟩
  · exact .inl ⟨rfl, rfl⟩

theorem tickTurn_completes {s : State} (hb : s.seq ≠ .idle) : CompletesIfIdle .done s (tickTurn s) := by
  rcases tickTurn_cases s with ⟨-, e⟩ | ⟨-, e⟩ <;> rw [e] <;> exact .inr ⟨hb, rfl⟩

/-- Settles O41: in a busy block the HOST is held, an event keeps SEQ, and only the SEQ agent's return to IDLE responds. -/
theorem oneCompletionOnReturnToIdle : Obligations.OneCompletionOnReturnToIdle := by
  refine ⟨fun s t h hb hreset => ?busy, fun i s t hi h => ?acceptance⟩
  case busy =>
    obtain ⟨ts, -, ⟨-, hh⟩ | ⟨-, rfl⟩ | ⟨-, -, rfl⟩ | ⟨hn, -⟩⟩ := step_cases h
    · cases (hostTurn_of_busy (s := { s with turns := ts }) hb).symm.trans hh
      exact .inr ⟨hb, rfl⟩
    · exact seqTurn_completes (s := { s with turns := ts }) hb
    · exact tickTurn_completes (s := { s with turns := ts }) hb
    · exact absurd (nextTurn_reset hn) hreset
  case acceptance =>
    obtain ⟨c, hdone | hnone⟩ := exec_completes hi h
    · exact .inl ⟨hdone.1, c, hdone.2⟩
    · exact .inr hnone

end Sys2Proof.Machine
end

section
/-! The timer driver (40_timer.md): what TMR_START, TMR_STOP and TICK_RD write (R100 to R106), and the compare-match under
its guard (R108, R110); O13 to O17. -/

namespace Sys2Proof.Machine

/-! ### TMR_START (R100, R101) -/

theorem encode_tmrStart_toNat (r : RateByte) : (encode (.tmrStart r)).toNat = 0x100000 + r.toNat :=
  congrArg CmdWord.bits (encodeWord_tmrStart r)

theorem exec_tmrStart_of_rateOf {r : RateByte} {u : RateUnit} (h : rateOf r = some u) (s : State) :
    exec (.tmrStart r) s = .next (respond (doStart u s)) := by
  simp only [exec, execTmrStart, h]

/-- Settles O13: the two rate bytes in contract start the timer at their unit, and the others name none. -/
theorem tmrStartStartsTheTimer : Obligations.TmrStartStartsTheTimer :=
  ⟨encode_tmrStart_toNat, fun _ s hr => exec_tmrStart_of_two_le hr s,
    fun s => ⟨exec_tmrStart_of_rateOf (u := .slow) rfl s, exec_tmrStart_of_rateOf (u := .fast) rfl s⟩⟩

/-! ### TMR_STOP (R103 to R105) -/

theorem exec_tmrStop (s : State) : exec .tmrStop s = .next (respond (doStop s)) := rfl

/-- Settles O14: the acceptance step is `doStop` and the completion, which between them write no other cell. -/
theorem tmrStopStopsTheTimer : Obligations.TmrStopStopsTheTimer := ⟨by decide, exec_tmrStop⟩

theorem doStop_doStop (s : State) : doStop (doStop s) = doStop s := rfl

@[simp] theorem doStop_tickEnabled (s : State) : (doStop s).tickEnabled = false := rfl

/-- Settles O15: a stop writes constants, RATE = NONE among them, which closes the guard of the TICK event. -/
theorem stopIsIdempotent : Obligations.StopIsIdempotent :=
  fun s => ⟨doStop_doStop s, doStop_tickEnabled s, doStop_tick s⟩

/-! ### TICK_RD (R106) -/

theorem exec_tickRd (s : State) : exec .tickRd s = .next (respondValue (s.tick.setWidth Config.rspW) s) := rfl

/-- At the default widths TICK fits the response (30_encoding.md R71). -/
theorem tick_response_toNat (v : TickVal) : (v.setWidth Config.rspW).toNat = v.toNat :=
  BitVec.toNat_setWidth_of_le (Nat.le_refl _)

/-- Settles O16: the value is the counter, extended with zeros to the width of the response. -/
theorem tickRdReturnsTheCounter : Obligations.TickRdReturnsTheCounter :=
  ⟨by decide, fun s => ⟨_, tick_response_toNat s.tick, exec_tickRd s⟩⟩

/-! ### The compare-match (R108, R110) -/

theorem compareMatch_of_enabled {s : State} (h : s.tickEnabled = true) :
    compareMatch s = { s with tick := inc s.tick } :=
  if_pos h

theorem compareMatch_of_not_enabled {s : State} (h : ¬s.tickEnabled = true) : compareMatch s = s :=
  if_neg h

/-- R110: the increment wraps at 2^16. -/
theorem inc_tick_eq_ofNat (v : TickVal) : inc v = BitVec.ofNat 16 ((v.toNat + 1) % 2 ^ 16) := by
  apply BitVec.eq_of_toNat_eq
  simp [inc_tick_toNat]

/-- Settles O17: the statement's guard is `tickEnabled`, and the two clauses are the branches of `compareMatch`. -/
theorem compareMatchIncrementsTickOnly : Obligations.CompareMatchIncrementsTickOnly := by
  intro s
  rw [← tickEnabled_iff, ← inc_tick_eq_ofNat]
  exact ⟨compareMatch_of_enabled, compareMatch_of_not_enabled⟩

end Sys2Proof.Machine
end

section
/-! The Blocking Wait (41_wait.md): what WAIT, W_POLL and W_STOP write (R120 to R124, R128), the order of events and polls
inside a wait (R126), a wait from its start to its end (R125, R130), and the end of every command (R127); O20 to O27. -/

namespace Sys2Proof.Machine

open Sys2Proof.Safety

/-! ### WAIT's acceptance step and the poll at any widths (R120 to R123, R128) -/

theorem exec_wait (d : Duration) (s : State) : exec (.wait d) s = .next (callWait d .toIdle s) := rfl

theorem exec_wait_pos {d : Duration} (hd : d ≠ 0) (s : State) : exec (.wait d) s = .next (beginWait d .toIdle s) :=
  (exec_wait d s).trans (congrArg _ (callWait_pos hd .toIdle s))

theorem exec_wait_zero {s : State} (hi : s.seq = .idle) : exec (.wait 0) s = .next (respond s) := by
  rw [exec_wait, callWait_zero, cont_toIdle, ← hi]
  rfl

/-- Settles O20: a duration of 0 leaves nothing but the caller's continuation. -/
theorem waitZeroWritesNoState : Obligations.WaitZeroWritesNoState :=
  fun s => ⟨exec_wait_zero, callWait_zero .toIdle s, callWait_zero .toStep s, callWait_zero .toClear s⟩

/-- Settles O21: any other duration begins the wait. -/
theorem waitStartsTheTimerAtSlow : Obligations.WaitStartsTheTimerAtSlow :=
  fun s _ hd => exec_wait_pos hd s

/-- Settles O25: R128(b) follows because a counter of `tw` bits is below `2 ^ tw`. -/
theorem pollComparesAsNaturalsAtAllWidths : Obligations.PollComparesAsNaturalsAtAllWidths :=
  fun _ _ t d => ⟨pollGoesOn_iff t d, fun hd => (pollGoesOn_iff t d).2 (Nat.lt_of_lt_of_le t.isLt hd)⟩

/-! ### W_POLL and W_STOP (R123, R124) -/

theorem seqStep_of_poll_below {s : State} (hq : s.seq = .wPoll) (h : s.tick.toNat < s.wtgt.toNat) : seqStep s = s := by
  rcases seqStep_cases s with ⟨-, e⟩ | ⟨-, -, e⟩ | ⟨-, hle, -⟩ | ⟨hq', -⟩ | ⟨hq', -⟩ | ⟨hq', -⟩ | ⟨hq', -⟩
  · exact e
  · exact e
  · exact absurd h (Nat.not_lt.2 hle)
  all_goals cases hq.symm.trans hq'

theorem seqStep_of_poll_reached {s : State} (hq : s.seq = .wPoll) (h : ¬s.tick.toNat < s.wtgt.toNat) :
    seqStep s = { s with seq := .wStop } := by
  rcases seqStep_cases s with ⟨hq', -⟩ | ⟨-, hlt, -⟩ | ⟨-, -, e⟩ | ⟨hq', -⟩ | ⟨hq', -⟩ | ⟨hq', -⟩ | ⟨hq', -⟩
  case inr.inl => exact absurd hlt h
  case inr.inr.inl => exact e
  all_goals cases hq.symm.trans hq'

theorem seqStep_of_stop {s : State} {r : Ret} (hq : s.seq = .wStop) (hr : s.ret = r) :
    seqStep s = cont r (doStop s) := by
  simp only [seqStep, hq, wStopStep, hr]

/-- Settles O22, by the two answers of the comparison. -/
theorem pollComparesTheCounter : Obligations.PollComparesTheCounter :=
  fun _ hq => ⟨seqStep_of_poll_below hq, seqStep_of_poll_reached hq⟩

/-- Settles O23: the three continuations of the stopped timer. -/
theorem stopStepReturnsWhereRetSays : Obligations.StopStepReturnsWhereRetSays :=
  fun _ hq => ⟨seqStep_of_stop hq, seqStep_of_stop hq, seqStep_of_stop hq⟩

/-- A step of the SEQ agent inside a wait keeps TICK. -/
theorem seqTurn_tick_of_inFlight {s : State} (hf : s.inFlight = true) : (seqTurn s).tick = s.tick := by
  show (seqStep s).tick = s.tick
  rcases (inFlight_iff s).1 hf with hq | hq
  · simp [seqStep, hq]
  · simp [seqStep_of_stop hq rfl]

/-- A TICK event, which leaves a poll owed inside a wait. -/
theorem tickTurn_of_event {s : State} (h : s.tickEnabled = true) :
    tickTurn s = { s with tick := inc s.tick, pollOwed := s.inFlight } := by
  rw [tickTurn_of_enabled h, compareMatch_of_enabled h]

/-! ### A step of a busy block -/

/-- Everything a step of a busy block can do outside a reset: the HOST is held, so its turn only leaves the list. -/
theorem step_of_busy {s : State} (hb : s.seq ≠ .idle) (hr : s.turns.head? ≠ some .reset) :
    ((nextTurn s).1 = .host ∧ step s = .next { s with turns := (nextTurn s).2 }) ∨
    ((nextTurn s).1 = .seq ∧ step s = .next (seqTurn { s with turns := (nextTurn s).2 })) ∨
    ((nextTurn s).1 = .tick ∧ s.mustPoll = false ∧
      step s = .next (tickTurn { s with turns := (nextTurn s).2 })) := by
  have hstep : step s = runTurn (nextTurn s).1 { s with turns := (nextTurn s).2 } := rfl
  cases hn : (nextTurn s).1 with
  | host => exact .inl ⟨rfl, by rw [hstep, hn]; exact hostTurn_of_busy (s := { s with turns := _ }) hb⟩
  | seq => exact .inr (.inl ⟨rfl, by rw [hstep, hn]; rfl⟩)
  | tick => exact .inr (.inr ⟨rfl, nextTurn_tick hn, by rw [hstep, hn]; rfl⟩)
  | reset => exact absurd (nextTurn_reset hn) hr

theorem nextTurn_turns_of_host {s : State} (h : (nextTurn s).1 = .host) : (nextTurn s).2 = s.turns.tail := by
  rcases nextTurn_cases s with ⟨hts, e⟩ | ⟨_, -, -, e⟩ | ⟨x, rest, hts, -, e⟩ <;> rw [e] at h ⊢
  · rw [hts]; rfl
  · cases h
  · rw [hts]; rfl

theorem reset_notMem_nextTurn {s : State} (h : Turn.reset ∉ s.turns) : Turn.reset ∉ (nextTurn s).2 := by
  rcases nextTurn_cases s with ⟨-, e⟩ | ⟨_, -, -, e⟩ | ⟨x, rest, hts, -, e⟩ <;> rw [e]
  · exact List.not_mem_nil
  · exact h
  · rw [hts] at h
    exact List.not_mem_of_not_mem_cons h

theorem head?_ne_reset {s : State} (h : Turn.reset ∉ s.turns) : s.turns.head? ≠ some .reset :=
  fun e => h (List.mem_of_mem_head? e)

@[simp] theorem seqTurn_turns (s : State) : (seqTurn s).turns = s.turns := by
  rcases seqStep_cases s with ⟨-, e⟩ | ⟨-, -, e⟩ | ⟨-, -, e⟩ | ⟨-, e⟩ | ⟨-, -, e⟩ | ⟨-, -, e⟩ | ⟨-, e⟩ <;>
    simp [seqTurn, e]

@[simp] theorem tickTurn_turns (s : State) : (tickTurn s).turns = s.turns := by
  rcases tickTurn_cases s with ⟨-, e⟩ | ⟨-, e⟩ <;> rw [e]

/-! ### Between two events of a wait the SEQ agent moves (R126) -/

theorem tickEnabled_of_inFlight {s : State} (hs : BlockInv s) (hf : s.inFlight = true) : s.tickEnabled = true := by
  obtain ⟨hrate, -, htie, hgie⟩ := hs.waitHasTheTimer hf
  exact (tickEnabled_iff s).2 ⟨by simp [hrate], htie, hgie⟩

theorem mustPoll_of_inFlight {s : State} (hs : BlockInv s) (hf : s.inFlight = true) : s.mustPoll = s.pollOwed := by
  simp [State.mustPoll, hf, tickEnabled_of_inFlight hs hf]

theorem ticksNow_iff (s : State) : ticksNow s = true ↔ (nextTurn s).1 = .tick ∧ s.tickEnabled = true := by
  simp [ticksNow]

/-- Settles O24: inside a wait `mustPoll` is `pollOwed`, so an event needs the bit clear and sets it, and while it is set
only the held HOST or the SEQ agent can have the turn. -/
theorem seqMovesBetweenTwoTicksOfAWait : Obligations.SeqMovesBetweenTwoTicksOfAWait := by
  intro s t hs hf hreset h
  have hb : s.seq ≠ .idle := fun hi => by simp [State.inFlight, hi] at hf
  have hm : s.mustPoll = s.pollOwed := mustPoll_of_inFlight hs hf
  rcases step_of_busy hb hreset with ⟨hn, e⟩ | ⟨hn, e⟩ | ⟨hn, hclear, e⟩ <;> cases e.symm.trans h
  · refine ⟨fun htick => ?_, fun howed => ⟨rfl, fun _ => ?_, fun hp => ?_⟩⟩
    · cases hn.symm.trans ((ticksNow_iff s).1 htick).1
    · rw [nextTurn_turns_of_host hn]
    · cases howed.symm.trans hp
  · refine ⟨fun htick => ?_, fun _ => ⟨seqTurn_tick_of_inFlight hf, nofun, fun _ => rfl⟩⟩
    cases hn.symm.trans ((ticksNow_iff s).1 htick).1
  · have hp : s.pollOwed = false := hm.symm.trans hclear
    refine ⟨fun htick => ?_, fun howed => ?_⟩
    · have hen : s.tickEnabled = true := ((ticksNow_iff s).1 htick).2
      rw [tickTurn_of_event (s := { s with turns := (nextTurn s).2 }) hen]
      exact ⟨hp, hf, rfl⟩
    · cases hp.symm.trans howed

/-! ### A wait from its start to its end (R125, R126, R130)

Inside a wait only SEQ, TICK, the list of turns and the owed poll move, so its states are `duringWait` of the state it was
called in, with TICK the number of events seen; it ends in `afterWait`. -/

/-- Inside the wait of `d` ticks called in `s`, `n` events after its start. -/
def duringWait (d : Duration) (r : Ret) (s : State) (q : Seq) (n : Nat) (ts : List Turn) (p : Bool) : State :=
  { beginWait d r s with seq := q, tick := BitVec.ofNat 16 n, turns := ts, pollOwed := p }

/-- Where the wait of `d` ticks called in `s` leads once it has stopped the timer after `n` events. -/
def afterWait (d : Duration) (r : Ret) (s : State) (n : Nat) (ts : List Turn) : State :=
  cont r { s with tick := BitVec.ofNat 16 n, rate := .none, cmp := 0, tie := false, gie := true, wtgt := d, ret := r,
                  turns := ts, pollOwed := false }

/-- How many events the wait can have seen (the clauses of `CounterWithinWait`, counted without the wrap of TICK). -/
def EventsWithinWait (d : Duration) (q : Seq) (n : Nat) (p : Bool) : Prop :=
  (q = .wPoll ∧ (n < d.toNat ∨ n = d.toNat ∧ p = true)) ∨
  (q = .wStop ∧ (n = d.toNat ∨ n = d.toNat + 1 ∧ p = true))

/-- `u` stands inside the wait of `d` ticks called in `s`, which has seen `n` events; no reset is listed. -/
def InWait (d : Duration) (r : Ret) (s : State) (n : Nat) (u : State) : Prop :=
  ∃ q ts p, u = duringWait d r s q n ts p ∧ Turn.reset ∉ ts ∧ EventsWithinWait d q n p

section

variable {d : Duration} {r : Ret} {s : State}

theorem inWait_beginWait (hd : d ≠ 0) (hr : Turn.reset ∉ s.turns) : InWait d r s 0 (beginWait d r s) := by
  have hpos : 0 < d.toNat := Nat.pos_of_ne_zero fun e => hd (BitVec.eq_of_toNat_eq e)
  exact ⟨.wPoll, s.turns, s.pollOwed, rfl, hr, .inl ⟨rfl, .inl hpos⟩⟩

theorem EventsWithinWait.busy {q : Seq} {n : Nat} {p : Bool} (h : EventsWithinWait d q n p) : q ≠ .idle := by
  rintro rfl
  rcases h with ⟨h, -⟩ | ⟨h, -⟩ <;> cases h

theorem EventsWithinWait.inFlight {q : Seq} {n : Nat} {p : Bool} {ts : List Turn} (h : EventsWithinWait d q n p) :
    (duringWait d r s q n ts p).inFlight = true :=
  (inFlight_iff _).2 (h.imp And.left And.left)

/-- An event with no poll owed keeps the count within the wait. -/
theorem EventsWithinWait.event {q : Seq} {n : Nat} (h : EventsWithinWait d q n false) :
    EventsWithinWait d q (n + 1) true := by
  rcases h with ⟨hq, hn⟩ | ⟨hq, hn⟩
  · have hlt : n < d.toNat := hn.resolve_right (by simp)
    exact .inl ⟨hq, (Nat.lt_or_eq_of_le hlt).imp_right fun e => ⟨e, rfl⟩⟩
  · have heq : n = d.toNat := hn.resolve_right (by simp)
    exact .inr ⟨hq, .inr ⟨congrArg (· + 1) heq, rfl⟩⟩

theorem duringWait_tickTurn (q : Seq) (n : Nat) (ts : List Turn) (p : Bool)
    (hf : (duringWait d r s q n ts p).inFlight = true) :
    tickTurn (duringWait d r s q n ts p) = duringWait d r s q (n + 1) ts true := by
  have hinc : inc (BitVec.ofNat 16 n) = BitVec.ofNat 16 (n + 1) := (BitVec.ofNat_add n 1).symm
  rw [tickTurn_of_event rfl, hf]
  simp [duringWait, hinc]

/-- A poll, before the counter has wrapped, compares the number of events. -/
theorem duringWait_poll {n : Nat} (hn : n ≤ d.toNat) (ts : List Turn) (p : Bool) :
    seqTurn (duringWait d r s .wPoll n ts p) =
      duringWait d r s (if n < d.toNat then .wPoll else .wStop) n ts false := by
  have htick : (BitVec.ofNat 16 n).toNat = n := Nat.mod_eq_of_lt (Nat.lt_of_le_of_lt hn d.isLt)
  have hpoll : pollGoesOn (BitVec.ofNat 16 n) d = decide (n < d.toNat) := by rw [pollGoesOn, htick]
  simp [seqTurn, seqStep, duringWait, wPollStep, hpoll]

theorem duringWait_stop (n : Nat) (ts : List Turn) (p : Bool) :
    seqTurn (duringWait d r s .wStop n ts p) = afterWait d r s n ts := by
  cases r <;> rfl

/-- A step of the SEQ agent keeps the count within the wait, or ends the wait at `d` or `d + 1` events. -/
theorem duringWait_seqTurn {q : Seq} {n : Nat} {p : Bool} {ts : List Turn} (hr : Turn.reset ∉ ts)
    (h : EventsWithinWait d q n p) :
    InWait d r s n (seqTurn (duringWait d r s q n ts p)) ∨
      ((n = d.toNat ∨ n = d.toNat + 1) ∧ seqTurn (duringWait d r s q n ts p) = afterWait d r s n ts) := by
  rcases h with ⟨rfl, hn⟩ | ⟨rfl, hn⟩
  · have hle : n ≤ d.toNat := by omega
    refine .inl ⟨_, ts, false, duringWait_poll hle ts p, hr, ?_⟩
    split
    · exact .inl ⟨rfl, .inl ‹_›⟩
    · exact .inr ⟨rfl, .inl (Nat.le_antisymm hle (Nat.le_of_not_lt ‹_›))⟩
  · exact .inr ⟨hn.imp_right And.left, duringWait_stop n ts p⟩

/-- The events a step adds. -/
def eventNow (u : State) : Nat := if ticksNow u then 1 else 0

theorem eventNow_of_turn {u : State} {x : Turn} (h : (nextTurn u).1 = x) (hx : x ≠ .tick) : eventNow u = 0 := by
  simp [eventNow, ticksNow, h, hx]

theorem tickEvents_succ {k : Nat} {u v : State} (h : step u = .next v) :
    tickEvents (k + 1) u = eventNow u + tickEvents k v := by
  simp only [tickEvents, h, eventNow]

/-- Everything a step inside a wait can do. -/
theorem InWait.step_cases {n : Nat} {u v : State} (hu : InWait d r s n u) (h : step u = .next v) :
    InWait d r s (n + eventNow u) v ∨
      (eventNow u = 0 ∧ (n = d.toNat ∨ n = d.toNat + 1) ∧
        ∃ ts, Turn.reset ∉ ts ∧ v = afterWait d r s n ts) := by
  obtain ⟨q, ts, p, rfl, hr, hn⟩ := hu
  have hr' := reset_notMem_nextTurn (s := duringWait d r s q n ts p) hr
  rcases step_of_busy (s := duringWait d r s q n ts p) hn.busy (head?_ne_reset hr) with
    ⟨hturn, e⟩ | ⟨hturn, e⟩ | ⟨hturn, hm, e⟩ <;> cases e.symm.trans h
  · rw [eventNow_of_turn hturn nofun]
    exact .inl ⟨q, _, p, rfl, hr', hn⟩
  · rw [eventNow_of_turn hturn nofun]
    exact (duringWait_seqTurn hr' hn).imp_right fun ⟨hend, e⟩ => ⟨rfl, hend, _, hr', e⟩
  · have hp : p = false := by
      have he : (duringWait d r s q n ts p).tickEnabled = true := rfl
      rwa [State.mustPoll, hn.inFlight, he] at hm
    subst hp
    have hevent : eventNow (duringWait d r s q n ts false) = 1 :=
      if_pos ((ticksNow_iff _).2 ⟨hturn, rfl⟩)
    rw [hevent]
    exact .inl ⟨q, _, true, duringWait_tickTurn q n _ false hn.inFlight, hr', hn.event⟩

/-- A run that ends idle from inside a wait passes through the end of the wait, wherever RET then leads: `m` is the events
still to come there, and `j` the steps after it. -/
theorem InWait.run_to_idle {k n : Nat} {u t : State} (hu : InWait d r s n u) (hrun : BusyRun k u t)
    (hidle : t.seq = .idle) :
    ∃ m j ts, (n + m = d.toNat ∨ n + m = d.toNat + 1) ∧ Turn.reset ∉ ts ∧
      BusyRun j (afterWait d r s (n + m) ts) t ∧
      tickEvents k u = m + tickEvents j (afterWait d r s (n + m) ts) := by
  induction k generalizing n u with
  | zero =>
    cases hrun
    obtain ⟨q, ts, p, rfl, -, hn⟩ := hu
    exact absurd hidle hn.busy
  | succ k ih =>
    obtain ⟨-, v, hstep, hrest⟩ := hrun
    rw [tickEvents_succ hstep]
    rcases hu.step_cases hstep with hv | ⟨hquiet, hend, ts, hr, rfl⟩
    · obtain ⟨m, j, ts, hend, hr, hafter, hevents⟩ := ih hv hrest
      rw [Nat.add_assoc] at hend hafter hevents
      exact ⟨eventNow u + m, j, ts, hend, hr, hafter, by rw [hevents, Nat.add_assoc]⟩
    · exact ⟨0, k, ts, hend, hr, hrest, by rw [hquiet]; rfl⟩

/-- The same from the start of the wait: it sees `d` or `d + 1` events. -/
theorem beginWait_run_to_idle {k : Nat} {t : State} (hd : d ≠ 0) (hr : Turn.reset ∉ s.turns)
    (hrun : BusyRun k (beginWait d r s) t) (hidle : t.seq = .idle) :
    ∃ n j ts, (n = d.toNat ∨ n = d.toNat + 1) ∧ Turn.reset ∉ ts ∧ BusyRun j (afterWait d r s n ts) t ∧
      tickEvents k (beginWait d r s) = n + tickEvents j (afterWait d r s n ts) := by
  simpa only [Nat.zero_add] using (inWait_beginWait hd hr).run_to_idle hrun hidle

end

/-- A run of a command has no step from an idle state. -/
theorem busyRun_of_idle {k : Nat} {u t : State} (h : BusyRun k u t) (hi : u.seq = .idle) : k = 0 ∧ u = t := by
  cases k with
  | zero => exact ⟨rfl, h⟩
  | succ k => exact absurd hi ((busy_iff u).1 h.1)

/-- Settles O26: the wait ends in `afterWait` with RET = TO_IDLE, which is idle, so the run ends there too. -/
theorem waitEndsAfterItsDuration : Obligations.WaitEndsAfterItsDuration := by
  intro s s' t d k _ hd hr hexec hrun hidle
  cases (exec_wait_pos hd s).symm.trans hexec
  obtain ⟨n, j, ts, hn, -, hafter, hevents⟩ := beginWait_run_to_idle hd hr hrun hidle
  obtain ⟨rfl, rfl⟩ := busyRun_of_idle hafter rfl
  have hcount : tickEvents k (beginWait d .toIdle s) = n := hevents
  rw [hcount]
  exact ⟨hn, BitVec.toNat_ofNat n 16, rfl, rfl, rfl, rfl, rfl, rfl, rfl, rfl, rfl, rfl, rfl, rfl, rfl, rfl, rfl, rfl, rfl⟩

/-! ### Every command in progress ends (R127) -/

/-- From `s` the block comes to rest. -/
def Ends (s : State) : Prop := ∃ (k : Nat) (t : State), BusyRun k s t ∧ t.seq = .idle

theorem ends_of_idle {s : State} (h : s.seq = .idle) : Ends s := ⟨0, s, rfl, h⟩

theorem ends_of_step {s u : State} (hb : s.seq ≠ .idle) (h : step s = .next u) (hu : Ends u) : Ends s := by
  obtain ⟨k, t, hrun, hidle⟩ := hu
  exact ⟨k + 1, t, ⟨(busy_iff s).2 hb, u, h, hrun⟩, hidle⟩

/-- A bound on the steps still to come when no turn is listed: an event and its poll for each tick a wait still needs, and
six for each step the motor still takes (its S_LOOP, two events with their polls, and its W_STOP). -/
def stepsLeft (s : State) : Nat :=
  match s.seq with
  | .idle => 0
  | .clear => 1
  | .sLoop => 2 + 6 * s.rem.toNat
  | .wStop => 3 + 6 * s.rem.toNat
  | .wPoll => 3 + 6 * s.rem.toNat + 2 * (s.wtgt.toNat - s.tick.toNat) + s.pollOwed.toNat

/-- Each step of the SEQ agent comes nearer to the end, a poll because it was owed. -/
theorem stepsLeft_seqTurn_lt {s : State} (hb : s.seq ≠ .idle) (hpoll : s.seq = .wPoll → s.pollOwed = true) :
    stepsLeft (seqTurn s) < stepsLeft s := by
  unfold seqTurn
  rcases seqStep_cases s with ⟨hq, -⟩ | ⟨hq, -, e⟩ | ⟨hq, -, e⟩ | ⟨hq, e⟩ | ⟨hq, -, e⟩ | ⟨hq, hrem, e⟩ | ⟨hq, e⟩
  · exact absurd hq hb
  all_goals rw [e]
  · simp [stepsLeft, hq, hpoll hq]
  · simp [stepsLeft, hq, hpoll hq]
  · cases s.ret with
    | toIdle => simp [stepsLeft, hq]
    | toStep => simp [stepsLeft, hq]
    | toClear => simp [stepsLeft, hq]; omega
  · simp [stepsLeft, hq]; omega
  · have hpos : s.rem.toNat ≠ 0 := fun h => hrem (BitVec.eq_of_toNat_eq h)
    simp [stepsLeft, hq, dec_count_toNat hrem]; omega
  · simp [stepsLeft, hq]

/-- An event in a wait that owes no poll comes nearer to the target, and costs the one poll it then owes. -/
theorem stepsLeft_tickTurn_lt {s : State} (hs : BlockInv s) (hq : s.seq = .wPoll) (hp : s.pollOwed = false) :
    stepsLeft (tickTurn s) < stepsLeft s := by
  have hf : s.inFlight = true := (inFlight_iff s).2 (.inl hq)
  have hlt : s.tick.toNat < s.wtgt.toNat := (hs.counterWithinWait.1 hq).2.resolve_right (by simp [hp])
  have hd := duration_lt s.wtgt
  rw [tickTurn_of_event (tickEnabled_of_inFlight hs hf)]
  simp [stepsLeft, hq, hp, hf, inc_tick_toNat]; omega

/-- The fair order of unlisted turns (log entry 2) in a busy block: a poll when one is owed, an event when none is. -/
theorem fallbackTurn_of_busy {s : State} (hs : BlockInv s) (hb : s.seq ≠ .idle) :
    (fallbackTurn s = .seq ∧ (s.seq = .wPoll → s.pollOwed = true)) ∨
      (fallbackTurn s = .tick ∧ s.seq = .wPoll ∧ s.pollOwed = false) := by
  unfold fallbackTurn
  split <;> rename_i hq
  · exact absurd hq hb
  · have hen := tickEnabled_of_inFlight hs ((inFlight_iff s).2 (.inl hq))
    cases hp : s.pollOwed <;> simp [hen, hq]
  all_goals exact .inl ⟨rfl, fun h => nomatch hq.symm.trans h⟩

/-- With no turn listed, a step of a busy block comes nearer to the end. -/
theorem step_decreases_stepsLeft {s : State} (hs : BlockInv s) (hb : s.seq ≠ .idle) (hts : s.turns = []) :
    ∃ u, step s = .next u ∧ u.turns = [] ∧ stepsLeft u < stepsLeft s := by
  have hn : nextTurn s = (fallbackTurn s, []) := by simp [nextTurn, hts]
  have hs' : { s with turns := [] } = s := by rw [← hts]
  have hstep := step_of_nextTurn hn
  rw [hs'] at hstep
  rcases fallbackTurn_of_busy hs hb with ⟨e, hpoll⟩ | ⟨e, hq, hp⟩ <;> rw [e] at hstep
  · exact ⟨_, hstep, (seqTurn_turns s).trans hts, stepsLeft_seqTurn_lt hb hpoll⟩
  · exact ⟨_, hstep, (tickTurn_turns s).trans hts, stepsLeft_tickTurn_lt hs hq hp⟩

theorem ends_of_no_turns {s : State} (hs : BlockInv s) (hts : s.turns = []) : Ends s := by
  induction hn : stepsLeft s using Nat.strong_induction_on generalizing s with
  | _ n ih =>
    by_cases hi : s.seq = .idle
    · exact ends_of_idle hi
    · obtain ⟨u, hstep, hu, hlt⟩ := step_decreases_stepsLeft hs hi hts
      exact ends_of_step hi hstep (ih _ (hn ▸ hlt) (stepKeepsTheInvariant s u hs hstep) hu rfl)

/-- A listed turn that is not held back by R126 leaves the list in one step. -/
theorem step_drops_listed_turn {s : State} {x : Turn} {ts : List Turn} (hb : s.seq ≠ .idle)
    (hr : Turn.reset ∉ s.turns) (hts : s.turns = x :: ts) (hx : x = .tick → s.mustPoll = false) :
    ∃ u, step s = .next u ∧ u.turns = ts := by
  have hn : (nextTurn s).2 = ts := congrArg Prod.snd (nextTurn_of_listed hts hx)
  rcases step_of_busy hb (head?_ne_reset hr) with ⟨-, e⟩ | ⟨-, e⟩ | ⟨-, -, e⟩
  · exact ⟨_, e, hn⟩
  · exact ⟨_, e, (seqTurn_turns _).trans hn⟩
  · exact ⟨_, e, (tickTurn_turns _).trans hn⟩

theorem seqTurn_mustPoll (s : State) : (seqTurn s).mustPoll = false := by
  simp [State.mustPoll, seqTurn]

/-- Each listed turn takes one step, or two where R126 holds a compare-match back until the SEQ agent has moved. -/
theorem ends_of_turns {s : State} {ts : List Turn} (hs : BlockInv s) (hts : s.turns = ts) (hr : Turn.reset ∉ ts) :
    Ends s := by
  induction ts generalizing s with
  | nil => exact ends_of_no_turns hs hts
  | cons x ts ih =>
    have htake {v : State} (hv : BlockInv v) (hvts : v.turns = x :: ts) (hx : x = .tick → v.mustPoll = false) :
        Ends v := by
      by_cases hi : v.seq = .idle
      · exact ends_of_idle hi
      · obtain ⟨u, hstep, hu⟩ := step_drops_listed_turn hi (hvts ▸ hr) hvts hx
        exact ends_of_step hi hstep
          (ih (stepKeepsTheInvariant v u hv hstep) hu (List.not_mem_of_not_mem_cons hr))
    by_cases hheld : x = .tick ∧ s.mustPoll = true
    · obtain ⟨rfl, hm⟩ := hheld
      have hb : s.seq ≠ .idle := fun hi => by simp [State.mustPoll, State.inFlight, hi] at hm
      have hstep : step s = .next (seqTurn s) := step_of_tick_held hts hm
      exact ends_of_step hb hstep
        (htake (seqTurn_keeps_blockInv hs) ((seqTurn_turns s).trans hts) fun _ => seqTurn_mustPoll s)
    · exact htake hs hts fun hx => by simpa [hx] using hheld

/-- Settles O27: the listed turns are used up, and after them the fair order counts `stepsLeft` down. -/
theorem everyCommandInProgressEnds : Obligations.EveryCommandInProgressEnds :=
  fun _ hs _ hr => ends_of_turns hs rfl hr

end Sys2Proof.Machine
end

section
/-! The stepper (42_stepper.md): the rotator (R147), what STEP, STEP_INIT, S_LOOP and CLEAR write (R141, R143, R144, R150), and
STEP and STEP_INIT from their acceptance to their end (R142, R145, R146, R148, R151); O28 to O34. -/

namespace Sys2Proof.Machine

open Sys2Proof.Safety

/-! ### The rotator (R147) -/

theorem rotate_four (d : Dir) (c : CoilBits) : rotate d (rotate d (rotate d (rotate d c))) = c := by
  cases d <;> revert c <;> decide

theorem rotate_ccw_cw (c : CoilBits) : rotate .ccw (rotate .cw c) = c := by revert c; decide

theorem rotate_cw_ccw (c : CoilBits) : rotate .cw (rotate .ccw c) = c := by revert c; decide

/-- Settles O28: the table's eight rows, and the sixteen values of COIL. -/
theorem rotatorFollowsTheTable : Obligations.RotatorFollowsTheTable :=
  ⟨by decide, by decide, rotate_four, fun c => ⟨rotate_ccw_cw c, rotate_cw_ccw c⟩⟩

/-! ### STEP's acceptance step (R141, R142) -/

theorem exec_step_of_dir {b : DirByte} {d : Dir} (h : dirOf b = some d) (n : StepCount) (s : State) :
    exec (.step n b) s = .next { s with dirl := d, rem := n, seq := .sLoop } := by
  simp only [exec, execStep, h]

theorem exec_step_of_no_dir {b : DirByte} (h : dirOf b = none) (n : StepCount) (s : State) :
    exec (.step n b) s = .next { s with seq := .clear } := by
  simp only [exec, execStep, h]

theorem dirOf_eq_none {b : DirByte} (hcw : b ≠ 0x01) (hccw : b ≠ 0xFF) : dirOf b = none := by
  rcases dirOf_cases b with ⟨h, -⟩ | ⟨h, -⟩ | ⟨-, -, h⟩
  · exact absurd h hcw
  · exact absurd h hccw
  · exact h

/-- Settles O29: the two directions, and the bytes that name none. -/
theorem stepAcceptanceLatchesItsOperands : Obligations.StepAcceptanceLatchesItsOperands := by
  intro s n b
  refine ⟨?cw, ?ccw, fun ⟨hcw, hccw⟩ => exec_step_of_no_dir (dirOf_eq_none hcw hccw) n s⟩
  case cw => rintro rfl; exact exec_step_of_dir rfl n s
  case ccw => rintro rfl; exact exec_step_of_dir rfl n s

/-! ### The micro-steps S_LOOP and CLEAR (R143, R144) -/

/-- The cells S_LOOP writes for one motor step, before it starts the wait. -/
def motorStep (s : State) : State :=
  { s with coil := rotate s.dirl s.coil, coilOut := rotate s.dirl s.coil, rem := dec s.rem }

theorem seqStep_of_loop_done {s : State} (hq : s.seq = .sLoop) (h : s.rem = 0) : seqStep s = { s with seq := .clear } := by
  simp only [seqStep, hq, sLoopStep_done h]

theorem seqStep_of_loop_more {s : State} (hq : s.seq = .sLoop) (h : s.rem ≠ 0) :
    seqStep s = beginWait 2 .toStep (motorStep s) := by
  simp only [seqStep, hq, sLoopStep_more h, motorStep]

theorem seqStep_of_clear {s : State} (hq : s.seq = .clear) : seqStep s = clearStep s := by
  simp only [seqStep, hq]

/-- Settles O30, by whether a motor step remains. -/
theorem loopAdvancesDrivesAndWaits : Obligations.LoopAdvancesDrivesAndWaits :=
  fun _ hq => ⟨seqStep_of_loop_done hq, seqStep_of_loop_more hq⟩

/-- Settles O31. -/
theorem clearDeEnergizesAndResponds : Obligations.ClearDeEnergizesAndResponds :=
  fun _ hq => seqStep_of_clear hq

/-! ### STEP_INIT's acceptance step (R150, R151) -/

/-- The cells STEP_INIT writes before its wait. -/
def driveRest (p : Config.StepInitParams) (s : State) : State :=
  { s with coilOe := 0b1111, coil := if p.initResetsCoil then 0b0001 else s.coil, coilOut := p.restPattern }

theorem exec_stepInit (s : State) : exec .stepInit s = .next (stepInitWith Config.stepInit s) := rfl

theorem stepInitWith_waiting {p : Config.StepInitParams} (h : p.initWaitTicks ≠ 0) (s : State) :
    stepInitWith p s = beginWait p.initWaitTicks .toClear (driveRest p s) :=
  callWait_pos h .toClear (driveRest p s)

theorem stepInitWith_not_waiting {p : Config.StepInitParams} (h : p.initWaitTicks = 0) (s : State) :
    stepInitWith p s = { driveRest p s with seq := .clear } := by
  rw [stepInitWith, h]
  exact callWait_zero .toClear (driveRest p s)

/-- Settles O32, by whether the wait is of 0 ticks. -/
theorem stepInitDrivesTheRestPattern : Obligations.StepInitDrivesTheRestPattern :=
  ⟨exec_stepInit, fun _ s => ⟨fun h => stepInitWith_waiting h s, fun h => stepInitWith_not_waiting h s⟩⟩

/-! ### From a busy state to the SEQ agent's next turn

Until the SEQ agent moves, the held HOST and the timer change only TICK, the list of turns and the owed poll, and TICK only
where the event's guard holds. -/

/-- `s` at another TICK, with other turns left and another owed poll. -/
def atTick (s : State) (v : TickVal) (ts : List Turn) (p : Bool) : State :=
  { s with tick := v, turns := ts, pollOwed := p }

/-- From `s` to TICK = `v` in `m` events: where the event's guard is false there is none and TICK is kept (R108); nothing is
said where it is true. -/
def EventsBetween (s : State) (m : Nat) (v : TickVal) : Prop := s.tickEnabled = false → m = 0 ∧ v = s.tick

theorem EventsBetween.trans {s : State} {m n : Nat} {v w : TickVal} {ts : List Turn} {p : Bool}
    (h : EventsBetween s m v) (h' : EventsBetween (atTick s v ts p) n w) : EventsBetween s (m + n) w := by
  intro hdis
  obtain ⟨rfl, hv⟩ := h hdis
  obtain ⟨rfl, hw⟩ := h' hdis
  exact ⟨rfl, hw.trans hv⟩

theorem tickEnabled_of_timerStopped {s : State} (h : TimerStopped s) : s.tickEnabled = false := by
  simp [State.tickEnabled, h.1]

/-- A step of a busy block outside a reset is the SEQ agent's turn, or changes no more than `atTick`. -/
theorem step_until_seqTurn {s u : State} (hb : s.seq ≠ .idle) (hr : Turn.reset ∉ s.turns) (h : step s = .next u) :
    ∃ v ts p, EventsBetween s (eventNow s) v ∧ Turn.reset ∉ ts ∧ (u = seqTurn (atTick s v ts p) ∨ u = atTick s v ts p) := by
  have hr' := reset_notMem_nextTurn hr
  have hquiet {n : Nat} (hn : n = 0) : EventsBetween s n s.tick := fun _ => ⟨hn, rfl⟩
  rcases step_of_busy hb (head?_ne_reset hr) with ⟨hturn, e⟩ | ⟨hturn, e⟩ | ⟨hturn, -, e⟩ <;> cases e.symm.trans h
  · exact ⟨s.tick, _, s.pollOwed, hquiet (eventNow_of_turn hturn nofun), hr', .inr rfl⟩
  · exact ⟨s.tick, _, s.pollOwed, hquiet (eventNow_of_turn hturn nofun), hr', .inl rfl⟩
  · rcases tickTurn_cases { s with turns := (nextTurn s).2 } with ⟨hen, e⟩ | ⟨hen, e⟩
    · exact ⟨inc s.tick, _, s.inFlight, fun hdis => (nomatch hen.symm.trans hdis), hr', .inr e⟩
    · have hno : ¬ticksNow s = true := fun hnow => nomatch hen.symm.trans ((ticksNow_iff s).1 hnow).2
      exact ⟨s.tick, _, s.pollOwed, hquiet (if_neg hno), hr', .inr e⟩

/-- A run of a busy block that ends idle contains a turn of the SEQ agent. -/
theorem busyRun_to_seqTurn {k : Nat} {s t : State} (hrun : BusyRun k s t) (hb : s.seq ≠ .idle)
    (hr : Turn.reset ∉ s.turns) (hidle : t.seq = .idle) :
    ∃ m v ts p j, EventsBetween s m v ∧ Turn.reset ∉ ts ∧ BusyRun j (seqTurn (atTick s v ts p)) t ∧
      tickEvents k s = m + tickEvents j (seqTurn (atTick s v ts p)) := by
  induction k generalizing s with
  | zero => cases hrun; exact absurd hidle hb
  | succ k ih =>
    obtain ⟨-, u, hstep, hrest⟩ := hrun
    rw [tickEvents_succ hstep]
    obtain ⟨v, ts, p, hv, hts, rfl | rfl⟩ := step_until_seqTurn hb hr hstep
    · exact ⟨_, v, ts, p, k, hv, hts, hrest, rfl⟩
    · obtain ⟨m, v', ts', p', j, hv', hts', hafter, hevents⟩ := ih hrest hb hts
      exact ⟨eventNow s + m, v', ts', p', j, hv.trans hv', hts', hafter, by rw [hevents, Nat.add_assoc]; rfl⟩

/-! ### From CLEAR, or S_LOOP with no step left, to the end (R144) -/

/-- `s` once CLEAR has de-energized the coils and responded, at another TICK and with other turns left. -/
def atRest (s : State) (v : TickVal) (ts : List Turn) : State :=
  { s with tick := v, turns := ts, pollOwed := false,
           coilOut := 0b0000, completions := .done :: s.completions, seq := .idle }

/-- The run of `k` steps from `s` to `t` does what CLEAR does, and what events do to TICK where the timer runs. -/
def ComesToRest (k : Nat) (s t : State) : Prop :=
  ∃ v ts, EventsBetween s (tickEvents k s) v ∧ t = atRest s v ts

section

variable {k : Nat} {s t : State}

theorem comesToRest_of_clear (hrun : BusyRun k s t) (hq : s.seq = .clear) (hr : Turn.reset ∉ s.turns)
    (hidle : t.seq = .idle) : ComesToRest k s t := by
  obtain ⟨m, v, ts, p, j, hm, -, hafter, hevents⟩ := busyRun_to_seqTurn hrun (by simp [hq]) hr hidle
  have hturn : seqTurn (atTick s v ts p) = atRest s v ts := by
    rw [seqTurn, seqStep_of_clear (s := atTick s v ts p) hq]
    rfl
  rw [hturn] at hafter hevents
  obtain ⟨rfl, rfl⟩ := busyRun_of_idle hafter rfl
  exact ⟨v, ts, hevents ▸ hm, rfl⟩

theorem comesToRest_of_loop_done (hrun : BusyRun k s t) (hq : s.seq = .sLoop) (hrem : s.rem = 0)
    (hr : Turn.reset ∉ s.turns) (hidle : t.seq = .idle) : ComesToRest k s t := by
  obtain ⟨m, v, ts, p, j, hm, hts, hafter, hevents⟩ := busyRun_to_seqTurn hrun (by simp [hq]) hr hidle
  have hturn : seqTurn (atTick s v ts p) = { atTick s v ts false with seq := .clear } := by
    rw [seqTurn, seqStep_of_loop_done (s := atTick s v ts p) hq hrem]
    rfl
  rw [hturn] at hafter hevents
  obtain ⟨v', ts', hm', rfl⟩ := comesToRest_of_clear hafter rfl hts hidle
  exact ⟨v', ts', hevents ▸ hm.trans (ts := ts) (p := false) hm', rfl⟩

/-! ### From S_LOOP with steps left to the end (R143, R145, R148) -/

/-- One motor step: its wait ends in S_LOOP after 2 or 3 events, whatever the timer had done before. -/
theorem loop_run_one_step (hrun : BusyRun k s t) (hq : s.seq = .sLoop) (hrem : s.rem ≠ 0) (hr : Turn.reset ∉ s.turns)
    (hidle : t.seq = .idle) :
    ∃ m n j ts, (s.tickEnabled = false → m = 0) ∧ (n = 2 ∨ n = 3) ∧ Turn.reset ∉ ts ∧
      BusyRun j (afterWait 2 .toStep (motorStep s) n ts) t ∧
      tickEvents k s = m + (n + tickEvents j (afterWait 2 .toStep (motorStep s) n ts)) := by
  obtain ⟨m, v, ts, p, j, hm, hts, hafter, hevents⟩ := busyRun_to_seqTurn hrun (by simp [hq]) hr hidle
  have hturn : seqTurn (atTick s v ts p) = beginWait 2 .toStep (motorStep (atTick s v ts false)) := by
    rw [seqTurn, seqStep_of_loop_more (s := atTick s v ts p) hq hrem]
    rfl
  rw [hturn] at hafter hevents
  obtain ⟨n, j', ts', hn, hts', hloop, hevents'⟩ :=
    beginWait_run_to_idle (s := motorStep (atTick s v ts false)) (by decide) hts hafter hidle
  exact ⟨m, n, j', ts', fun h => (hm h).1, hn, hts', hloop, hevents.trans (congrArg (m + ·) hevents')⟩

/-- `s` once all its remaining motor steps are taken; TICK and the coil lines are left to `atRest`. -/
def afterMotorSteps (s : State) : State :=
  { s with coil := rotateBy s.dirl s.rem.toNat s.coil, rem := 0,
           rate := .none, cmp := 0, tie := false, gie := true, wtgt := 2, ret := .toStep }

/-- The whole loop, by induction on the steps left: each motor step adds 2 or 3 events, and after the first the timer is
stopped whenever S_LOOP is reached. -/
theorem loop_run_to_idle (hrun : BusyRun k s t) (hq : s.seq = .sLoop) (hrem : s.rem ≠ 0) (hr : Turn.reset ∉ s.turns)
    (hidle : t.seq = .idle) :
    ∃ v ts, (v = 2 ∨ v = 3) ∧ t = atRest (afterMotorSteps s) v ts ∧
      (s.tickEnabled = false → 2 * s.rem.toNat ≤ tickEvents k s ∧ tickEvents k s ≤ 3 * s.rem.toNat) := by
  induction hcount : s.rem.toNat generalizing s k with
  | zero => exact absurd (BitVec.eq_of_toNat_eq hcount) hrem
  | succ c ih =>
    have hdec : (dec s.rem).toNat = c := by rw [dec_count_toNat hrem, hcount]; rfl
    obtain ⟨m, n, j, ts, hm, hn, hts, hloop, hevents⟩ := loop_run_one_step hrun hq hrem hr hidle
    by_cases hlast : dec s.rem = 0
    · obtain ⟨v, ts', hquiet, rfl⟩ := comesToRest_of_loop_done hloop rfl hlast hts hidle
      obtain ⟨hzero, hv⟩ := hquiet rfl
      have hc : c = 0 := by rw [← hdec, hlast]; rfl
      refine ⟨v, ts', ?_, ?_, fun hdis => ?_⟩
      · rw [hv]
        exact hn.imp (congrArg (BitVec.ofNat 16)) (congrArg (BitVec.ofNat 16))
      · simp [atRest, afterMotorSteps, afterWait, cont, motorStep, hlast, hcount, hc, rotateBy]
      · have hfirst : m = 0 := hm hdis
        omega
    · obtain ⟨v, ts', hv, rfl, hbounds⟩ := ih hloop rfl hlast hts hdec
      refine ⟨v, ts', hv, ?_, fun hdis => ?_⟩
      · simp [atRest, afterMotorSteps, afterWait, cont, motorStep, hdec, hcount, rotateBy]
      · have hfirst : m = 0 := hm hdis
        obtain ⟨hlow, hhigh⟩ := hbounds rfl
        omega

/-! ### The timer and the other cells at the end of a STEP (R142, R145, R148) -/

/-- The run kept the timer's settings, and TICK too where the timer was stopped. -/
def TimerKept (k : Nat) (s t : State) : Prop :=
  t.rate = s.rate ∧ t.cmp = s.cmp ∧ t.tie = s.tie ∧ t.gie = s.gie ∧
    (TimerStopped s → t.tick = s.tick ∧ tickEvents k s = 0)

/-- The run ended with the timer as the wait after the last of `c` motor steps leaves it. -/
def TimerLeftBySteps (c k : Nat) (s t : State) : Prop :=
  (t.tick = 2 ∨ t.tick = 3) ∧ t.rate = .none ∧ t.cmp = 0 ∧ t.tie = false ∧ t.gie = true ∧
    (TimerStopped s → 2 * c ≤ tickEvents k s ∧ tickEvents k s ≤ 3 * c)

theorem ComesToRest.timerKept (h : ComesToRest k s t) : TimerKept k s t := by
  obtain ⟨v, ts, hv, rfl⟩ := h
  exact ⟨rfl, rfl, rfl, rfl, fun hstopped => (hv (tickEnabled_of_timerStopped hstopped)).symm⟩

/-- S_LOOP to the end of the command, with or without steps left. -/
theorem loop_run_end (hrun : BusyRun k s t) (hq : s.seq = .sLoop) (hr : Turn.reset ∉ s.turns) (hidle : t.seq = .idle) :
    (t.coil = rotateBy s.dirl s.rem.toNat s.coil ∧ t.dirl = s.dirl ∧ t.rem = 0) ∧ t.coilOut = 0b0000 ∧
      (s.rem ≠ 0 → TimerLeftBySteps s.rem.toNat k s t) ∧ (s.rem = 0 → TimerKept k s t) ∧
      t.coilOe = s.coilOe ∧ t.encPrev = s.encPrev ∧ t.completions = .done :: s.completions := by
  by_cases hrem : s.rem = 0
  · have hrest : ComesToRest k s t := comesToRest_of_loop_done hrun hq hrem hr hidle
    have hkept := hrest.timerKept
    obtain ⟨v, ts, -, rfl⟩ := hrest
    have hcoil : s.coil = rotateBy s.dirl s.rem.toNat s.coil := by rw [hrem]; rfl
    exact ⟨⟨hcoil, rfl, hrem⟩, rfl, fun h => absurd hrem h, fun _ => hkept, rfl, rfl, rfl⟩
  · obtain ⟨v, ts, hv, rfl, hbounds⟩ := loop_run_to_idle hrun hq hrem hr hidle
    exact ⟨⟨rfl, rfl, rfl⟩, rfl,
      fun _ => ⟨hv, rfl, rfl, rfl, rfl, fun h => hbounds (tickEnabled_of_timerStopped h)⟩,
      fun h => absurd h hrem, rfl, rfl, rfl⟩

end

/-- Settles O33: a direction of ±1 runs the loop with the operands latched, any other goes through CLEAR alone. -/
theorem stepRotatesAndEndsDeEnergized : Obligations.StepRotatesAndEndsDeEnergized := by
  intro s s' t n b k _ hr hexec hrun hidle
  rcases dirOf_cases b with ⟨rfl, hd⟩ | ⟨rfl, hd⟩ | ⟨hcw, hccw, hd⟩
  · cases (exec_step_of_dir hd n s).symm.trans hexec
    obtain ⟨hmoved, hout, hused, hkept, hframe⟩ := loop_run_end hrun rfl hr hidle
    exact ⟨fun _ => hmoved, fun h => absurd h (by decide), fun h => absurd rfl h, hout, fun ⟨_, hn⟩ => hused hn,
      fun h => hkept (by_contra fun hn => h ⟨.inl rfl, hn⟩), hframe⟩
  · cases (exec_step_of_dir hd n s).symm.trans hexec
    obtain ⟨hmoved, hout, hused, hkept, hframe⟩ := loop_run_end hrun rfl hr hidle
    exact ⟨fun h => absurd h (by decide), fun _ => hmoved, fun _ h => absurd rfl h, hout, fun ⟨_, hn⟩ => hused hn,
      fun h => hkept (by_contra fun hn => h ⟨.inr rfl, hn⟩), hframe⟩
  · cases (exec_step_of_no_dir hd n s).symm.trans hexec
    have hrest : ComesToRest k { s with seq := .clear } t := comesToRest_of_clear hrun rfl hr hidle
    have hkept := hrest.timerKept
    obtain ⟨v, ts, -, rfl⟩ := hrest
    exact ⟨fun h => absurd h hcw, fun h => absurd h hccw, fun _ _ => ⟨rfl, rfl, rfl⟩, rfl,
      fun ⟨h, _⟩ => absurd h (not_or.2 ⟨hcw, hccw⟩), fun _ => hkept, rfl, rfl, rfl⟩

/-! ### STEP_INIT from its acceptance to its end (R150, R151) -/

/-- Where a STEP_INIT that waits ends: its wait stops the timer after INIT_WAIT_TICKS or one more, so CLEAR keeps TICK. -/
theorem stepInitWith_run_waiting {p : Config.StepInitParams} {k : Nat} {s t : State} (hd : p.initWaitTicks ≠ 0)
    (hr : Turn.reset ∉ s.turns) (hrun : BusyRun k (stepInitWith p s) t) (hidle : t.seq = .idle) :
    ∃ n ts ts', (n = p.initWaitTicks.toNat ∨ n = p.initWaitTicks.toNat + 1) ∧
      t = atRest (afterWait p.initWaitTicks .toClear (driveRest p s) n ts) (BitVec.ofNat 16 n) ts' := by
  rw [stepInitWith_waiting hd] at hrun
  obtain ⟨n, j, ts, hn, hts, hclear, -⟩ := beginWait_run_to_idle (s := driveRest p s) hd hr hrun hidle
  obtain ⟨v, ts', hquiet, rfl⟩ := comesToRest_of_clear hclear rfl hts hidle
  obtain ⟨-, rfl⟩ := hquiet rfl
  exact ⟨n, ts, ts', hn, rfl⟩

/-- TICK after as many events as a wait of `d` ticks sees. -/
theorem tick_ofNat_of_wait {d : Duration} {n : Nat} (hn : n = d.toNat ∨ n = d.toNat + 1) :
    BitVec.ofNat 16 n = d ∨ BitVec.ofNat 16 n = d + 1 := by
  have hofNat : BitVec.ofNat 16 d.toNat = d := by simp
  rcases hn with rfl | rfl
  · exact .inl hofNat
  · exact .inr ((BitVec.ofNat_add _ 1).trans (congrArg (· + 1) hofNat))

/-- Settles O34, by whether the wait is of 0 ticks. -/
theorem stepInitEndsDeEnergized : Obligations.StepInitEndsDeEnergized := by
  refine ⟨exec_stepInit, fun p s t k _ hr hrun hidle => ?_⟩
  by_cases hd : p.initWaitTicks = 0
  · rw [stepInitWith_not_waiting hd] at hrun
    have hrest : ComesToRest k { driveRest p s with seq := .clear } t := comesToRest_of_clear hrun rfl hr hidle
    obtain ⟨hrate, hcmp, htie, hgie, htick⟩ := hrest.timerKept
    obtain ⟨v, ts, -, rfl⟩ := hrest
    exact ⟨rfl, rfl, rfl, fun h => absurd hd h, fun _ => ⟨hrate, hcmp, htie, hgie, fun h => (htick h).1⟩,
      rfl, rfl, rfl, rfl⟩
  · obtain ⟨n, ts, ts', hn, rfl⟩ := stepInitWith_run_waiting hd hr hrun hidle
    exact ⟨rfl, rfl, rfl, fun _ => ⟨tick_ofNat_of_wait hn, rfl, rfl, rfl, rfl⟩, fun h => absurd h hd, rfl, rfl, rfl, rfl⟩

end Sys2Proof.Machine
end

section
/-! The input readers (43_inputs.md): the position of a button sample (R161), what BTN_RD and ENC_RD respond and write (R160,
R164, R165), and their order with a compare-match (R169); O35 to O37, O39. -/

namespace Sys2Proof.Machine

open Sys2Proof.Safety

/-! ### The position of a button sample (R161, R162) -/

/-- The position among the lines below `n`: the highest pressed one, plus 1. -/
def positionBelow (v : BtnSample) : Nat → Nat
  | 0 => 0
  | n + 1 => if v.getLsbD n = false then n + 1 else positionBelow v n

theorem btnPosition_eq_positionBelow (v : BtnSample) : btnPosition v = positionBelow v 6 := rfl

/-- `IsPosition` among the lines below `n`: a line `n` that is pressed wins, and one that is not changes nothing. -/
theorem positionBelow_cases (v : BtnSample) (n : Nat) :
    (positionBelow v n = 0 ∧ ∀ i < n, v.getLsbD i = true) ∨
      ∃ i < n, positionBelow v n = i + 1 ∧ v.getLsbD i = false ∧ ∀ j < n, i < j → v.getLsbD j = true := by
  induction n with
  | zero => exact .inl ⟨rfl, nofun⟩
  | succ n ih =>
    by_cases hn : v.getLsbD n = false
    · exact .inr ⟨n, Nat.lt_succ_self n, if_pos hn, hn, fun j hj hlt => by omega⟩
    have htop {i : Nat} (hi : i < n + 1) (hbelow : i < n → v.getLsbD i = true) : v.getLsbD i = true := by
      rcases Nat.lt_succ_iff_lt_or_eq.1 hi with h | rfl
      · exact hbelow h
      · exact Bool.eq_true_of_not_eq_false hn
    have hpos : positionBelow v (n + 1) = positionBelow v n := if_neg hn
    rw [hpos]
    rcases ih with ⟨hp, hall⟩ | ⟨i, hi, hp, hlow, habove⟩
    · exact .inl ⟨hp, fun i hi => htop hi (hall i)⟩
    · exact .inr ⟨i, Nat.lt_succ_of_lt hi, hp, hlow, fun j hj hlt => htop hj fun h => habove j h hlt⟩

theorem isPosition_btnPosition (v : BtnSample) : IsPosition v (btnPosition v) := by
  rw [btnPosition_eq_positionBelow]
  rcases positionBelow_cases v 6 with ⟨hp, hall⟩ | ⟨i, hi, hp, hlow, habove⟩
  · exact .inl ⟨hp, fun i => hall i i.isLt⟩
  · exact .inr ⟨⟨i, hi⟩, hp, hlow, fun j => habove j j.isLt⟩

theorem isPosition_le {v : BtnSample} {p : Nat} (h : IsPosition v p) : p ≤ 6 := by
  rcases h with ⟨rfl, -⟩ | ⟨i, rfl, -⟩
  · exact Nat.zero_le 6
  · exact i.isLt

/-- Settles O35: the chain of conditions is a search from the highest line down, and any position is at most 6. -/
theorem highestPressedButtonWins : Obligations.HighestPressedButtonWins :=
  fun v => ⟨isPosition_btnPosition v, isPosition_le (isPosition_btnPosition v)⟩

/-! ### The acceptance steps of the readers (R160, R164, R165) -/

theorem exec_btnRd (s : State) :
    exec .btnRd s = .next (respondValue (btnResponse (pinReadBtn s).1) (pinReadBtn s).2) := rfl

theorem exec_encRd (s : State) :
    exec .encRd s = .next (respondValue (encResponse s.encPrev (pinReadEnc s).1)
      { (pinReadEnc s).2 with encPrev := (pinReadEnc s).1 }) := rfl

/-- A PinRead writes only the list of samples and the count of free ones (20_memory.md R52). -/
theorem pinReadBtn_frame (s : State) :
    (pinReadBtn s).2 = { s with btnIn := (pinReadBtn s).2.btnIn, draws := (pinReadBtn s).2.draws } := by
  rcases pinReadBtn_cases s with ⟨v, rest, -, e⟩ | ⟨-, e⟩ <;> rw [e]

theorem pinReadEnc_frame (s : State) :
    (pinReadEnc s).2 = { s with encIn := (pinReadEnc s).2.encIn, draws := (pinReadEnc s).2.draws } := by
  rcases pinReadEnc_cases s with ⟨v, rest, -, e⟩ | ⟨-, e⟩ <;> rw [e]

/-- Settles O36: the response is the position of the sample, and only the PinRead and the completion write. -/
theorem btnRdReportsThePosition : Obligations.BtnRdReportsThePosition := by
  refine fun s => ⟨btnPosition (pinReadBtn s).1, isPosition_btnPosition _, ?_⟩
  rw [exec_btnRd, pinReadBtn_frame]
  rfl

/-- The three answers of `encRotation`, as words of the response (30_encoding.md R71). -/
theorem encResponse_eq (prev cur : EncSample) :
    encResponse prev cur =
      if prev = 0b11 ∧ cur = 0b01 then 0x0001 else if prev = 0b11 ∧ cur = 0b10 then 0xFFFF else 0x0000 := by
  unfold encResponse encRotation Params.encReleased Params.encFirst Params.encSecond
  split
  · rfl
  · split <;> rfl

/-- Settles O37: the rotation is read off the old ENC_PREV, and the sample then takes its place. -/
theorem encRdReportsTheRotation : Obligations.EncRdReportsTheRotation := by
  intro s
  rw [exec_encRd, encResponse_eq, pinReadEnc_frame]
  rfl

/-! ### The readers and a compare-match (R169, 60_exceptions.md R188)

A reader neither reads nor writes TICK, the turns or the owed poll, and a compare-match of the idle block writes only
TICK. -/

theorem pinReadBtn_atTick (s : State) (v : TickVal) (ts : List Turn) (p : Bool) :
    pinReadBtn (atTick s v ts p) = ((pinReadBtn s).1, atTick (pinReadBtn s).2 v ts p) := by
  rcases pinReadBtn_cases s with ⟨x, rest, h, e⟩ | ⟨h, e⟩ <;> rw [e]
  · exact pinReadBtn_of_listed (s := atTick s v ts p) h
  · exact pinReadBtn_of_none_listed (s := atTick s v ts p) h

theorem pinReadEnc_atTick (s : State) (v : TickVal) (ts : List Turn) (p : Bool) :
    pinReadEnc (atTick s v ts p) = ((pinReadEnc s).1, atTick (pinReadEnc s).2 v ts p) := by
  rcases pinReadEnc_cases s with ⟨x, rest, h, e⟩ | ⟨h, e⟩ <;> rw [e]
  · exact pinReadEnc_of_listed (s := atTick s v ts p) h
  · exact pinReadEnc_of_none_listed (s := atTick s v ts p) h

/-- The reader's acceptance step leads from `s` to `t` at every TICK, and keeps SEQ and the guard of the TICK event. -/
def ReadsAtEveryTick (i : Instr) (s t : State) : Prop :=
  (∀ v ts p, exec i (atTick s v ts p) = .next (atTick t v ts p)) ∧ t.seq = s.seq ∧ t.tickEnabled = s.tickEnabled

theorem reader_readsAtEveryTick {i : Instr} (hi : i = .btnRd ∨ i = .encRd) (s : State) :
    ∃ t, ReadsAtEveryTick i s t := by
  rcases hi with rfl | rfl
  · refine ⟨respondValue (btnResponse (pinReadBtn s).1) (pinReadBtn s).2, fun v ts p => ?_, by simp,
      by simp [State.tickEnabled]⟩
    rw [exec_btnRd, pinReadBtn_atTick]
    rfl
  · refine ⟨respondValue (encResponse s.encPrev (pinReadEnc s).1) { (pinReadEnc s).2 with encPrev := (pinReadEnc s).1 },
      fun v ts p => ?_, by simp, by simp [State.tickEnabled]⟩
    rw [exec_encRd, pinReadEnc_atTick]
    rfl

/-- TICK after a compare-match, with the guard's value `en` (R108). -/
def tickAfterMatch (en : Bool) (v : TickVal) : TickVal := if en then inc v else v

/-- In IDLE an event is in no wait, so none leaves a poll owed. -/
theorem tickTurn_atTick_of_idle {s : State} (hi : s.seq = .idle) (v : TickVal) (ts : List Turn) :
    tickTurn (atTick s v ts false) = atTick s (tickAfterMatch s.tickEnabled v) ts false := by
  have hguard : (atTick s v ts false).tickEnabled = s.tickEnabled := rfl
  rcases tickTurn_cases (atTick s v ts false) with ⟨hen, e⟩ | ⟨hen, e⟩ <;> rw [e, ← hguard, hen]
  · have hf : (atTick s v ts false).inFlight = false := by simp [State.inFlight, atTick, hi]
    rw [hf]
    rfl
  · rfl

theorem step_atTick_tick {s : State} (hi : s.seq = .idle) (v : TickVal) (ts : List Turn) :
    step (atTick s v (.tick :: ts) false) = .next (atTick s (tickAfterMatch s.tickEnabled v) ts false) := by
  have hm : (atTick s v (.tick :: ts) false).mustPoll = false := Bool.and_false _
  rw [step_of_listed rfl fun _ => hm]
  exact congrArg Host.Outcome.next (tickTurn_atTick_of_idle hi v ts)

theorem step_atTick_host {s : State} {w : CmdWord} {q : List HostAct} {i : Instr} (hi : s.seq = .idle)
    (hq : s.hostQueue = .command w :: q) (hd : decodeWord w = .ok i) (v : TickVal) (ts : List Turn) (p : Bool) :
    step (atTick s v (.host :: ts) p) = exec i (atTick { s with hostQueue := q } v ts p) :=
  step_of_presents_ok (s := atTick s v (.host :: ts) p) ⟨hi, hq, .inl rfl⟩ hd

theorem run_two {s u t : State} (h : step s = .next u) (h' : step u = .next t) : core.run 2 s = .next t := by
  have hcore : core.step s = .next u := h
  have hcore' : core.step u = .next t := h'
  simp only [Host.Core.run, hcore, hcore']

/-- Settles O39: in either order the reader leads to the same `t`, and the compare-match to the same TICK. -/
theorem readersCommuteWithTheInterrupt : Obligations.ReadersCommuteWithTheInterrupt := by
  intro s w q ts hi hp hq hd
  obtain ⟨i, hdi, hreader⟩ : ∃ i, decodeWord w = .ok i ∧ (i = .btnRd ∨ i = .encRd) :=
    hd.elim (fun h => ⟨_, h, .inl rfl⟩) (fun h => ⟨_, h, .inr rfl⟩)
  obtain ⟨t, hexec, hseq, hguard⟩ := reader_readsAtEveryTick hreader { s with hostQueue := q }
  have hstart (ts' : List Turn) : { s with turns := ts' } = atTick s s.tick ts' false := by rw [← hp]; rfl
  have hread (v : TickVal) (ts' : List Turn) :
      step (atTick s v (.host :: ts') false) = .next (atTick t v ts' false) :=
    (step_atTick_host hi hq hdi v ts' false).trans (hexec v ts' false)
  have hevent : step (atTick t s.tick (.tick :: ts) false) =
      .next (atTick t (tickAfterMatch s.tickEnabled s.tick) ts false) :=
    hguard ▸ step_atTick_tick (hseq.trans hi) s.tick ts
  refine ⟨atTick t (tickAfterMatch s.tickEnabled s.tick) ts false, ?readerFirst, ?eventFirst⟩ <;> rw [hstart]
  case readerFirst => exact run_two (hread _ _) hevent
  case eventFirst => exact run_two (step_atTick_tick hi s.tick _) (hread _ _)

end Sys2Proof.Machine
end

section
/-! Control transfers and exceptions (60_exceptions.md): the HOST's step GIE <- 0 (R202), the interrupt's entry and return
(R190, R192), the moves of SEQ (R201), and the steps that have no next state (R180, R181); O12, O18, O40, O44. -/

namespace Sys2Proof.Machine

open Sys2Proof.Safety

/-! ### The HOST's own step and its empty queue (R202) -/

theorem hostTurn_of_clearGie {s : State} {q : List HostAct} (hi : s.seq = .idle) (hq : s.hostQueue = .clearGie :: q) :
    hostTurn s = .next { s with hostQueue := q, gie := false } := by
  simp [hostTurn, State.busy, hi, hq]

theorem hostTurn_of_no_action {s : State} (hq : s.hostQueue = []) : hostTurn s = .next s := by
  simp [hostTurn, hq]

/-- Settles O12: it is the idle HOST's turn with that action at the head of its queue. -/
theorem hostClearsGieWhenIdle : Obligations.HostClearsGieWhenIdle := fun _ _ => hostTurn_of_clearGie

/-! ### Entry to the interrupt and return from it (R190, R192) -/

theorem takeTick_eq (s : State) : takeTick s = { s with tick := inc s.tick } := rfl

theorem returnFromTick_eq (s : State) : returnFromTick s = s := rfl

/-- Settles O18: the entry is the single increment, and the return is the identity. -/
theorem interruptSavesAndRestoresNothing : Obligations.InterruptSavesAndRestoresNothing :=
  fun s => (returnFromTick_eq (takeTick s)).trans (takeTick_eq s)

/-! ### The moves of SEQ (R201) -/

/-- The bytes that name no direction are the ones other than +1 and -1 (30_encoding.md R77). -/
theorem dirOf_eq_none_iff (b : DirByte) : dirOf b = none ↔ b ≠ 0x01 ∧ b ≠ 0xFF := by
  refine ⟨fun h => ?_, fun ⟨hcw, hccw⟩ => dirOf_eq_none hcw hccw⟩
  rcases dirOf_cases b with ⟨-, e⟩ | ⟨-, e⟩ | ⟨hcw, hccw, -⟩
  · cases h.symm.trans e
  · cases h.symm.trans e
  · exact ⟨hcw, hccw⟩

theorem byte_of_dirOf_eq_some {b : DirByte} {d : Dir} (h : dirOf b = some d) : b = 0x01 ∨ b = 0xFF := by
  by_contra hb
  cases h.symm.trans ((dirOf_eq_none_iff b).2 (not_or.1 hb))

/-- STEP_INIT's two rows, at whatever parameters the block is configured with. -/
theorem leavesIdleBy_stepInit (s : State) : LeavesIdleBy .stepInit (stepInitWith Config.stepInit s) := by
  by_cases hd : Config.stepInit.initWaitTicks = 0
  · rw [stepInitWith_not_waiting hd]
    exact .inr (.inr (.inr (.inr ⟨rfl, hd, rfl⟩)))
  · rw [stepInitWith_waiting hd]
    exact .inr (.inr (.inr (.inl ⟨rfl, hd, rfl, rfl⟩)))

/-- An accepted command that does not leave SEQ in IDLE is WAIT, STEP or STEP_INIT, under the condition of its row. -/
theorem exec_leavesIdleBy {i : Instr} {s t : State} (hi : s.seq = .idle) (h : exec i s = .next t)
    (hne : t.seq ≠ .idle) : LeavesIdleBy i t := by
  rcases exec_cases h with ⟨r, u, -, -, rfl⟩ | ⟨-, rfl⟩ | ⟨-, rfl⟩ | ⟨d, rfl, rfl⟩ | ⟨n, b, d, rfl, hb, rfl⟩ |
    ⟨n, b, rfl, hb, rfl⟩ | ⟨rfl, rfl⟩ | ⟨-, rfl⟩ | ⟨-, rfl⟩
  · exact absurd hi hne
  · exact absurd hi hne
  · exact absurd hi hne
  · rcases callWait_cases d .toIdle s with e | ⟨hd, e⟩ <;> rw [e] at hne ⊢
    · exact absurd rfl hne
    · exact .inl ⟨d, rfl, hd, rfl, rfl⟩
  · exact .inr (.inl ⟨n, b, rfl, byte_of_dirOf_eq_some hb, rfl⟩)
  · obtain ⟨hcw, hccw⟩ := (dirOf_eq_none_iff b).1 hb
    exact .inr (.inr (.inl ⟨n, b, rfl, hcw, hccw, rfl⟩))
  · exact leavesIdleBy_stepInit s
  · exact absurd ((pinReadBtn_seq s).trans hi) hne
  · exact absurd ((pinReadEnc_seq s).trans hi) hne

/-- The rows of R201 that leave a busy micro-state, as O40 lists them. -/
def MovesAlongBusyRow (s t : State) : Prop :=
  (s.seq = .wPoll ∧ s.wtgt.toNat ≤ s.tick.toNat ∧ t.seq = .wStop) ∨
  (s.seq = .wStop ∧ (s.ret = .toIdle ∧ t.seq = .idle ∨ s.ret = .toStep ∧ t.seq = .sLoop ∨
    s.ret = .toClear ∧ t.seq = .clear)) ∨
  (s.seq = .sLoop ∧ (s.rem = 0 ∧ t.seq = .clear ∨ s.rem ≠ 0 ∧ t.seq = .wPoll ∧ t.ret = .toStep)) ∨
  (s.seq = .clear ∧ t.seq = .idle)

theorem cont_seq_cases (r : Ret) (s : State) :
    (r = .toIdle ∧ (cont r s).seq = .idle) ∨ (r = .toStep ∧ (cont r s).seq = .sLoop) ∨
      (r = .toClear ∧ (cont r s).seq = .clear) := by
  cases r <;> simp

/-- A micro-step keeps SEQ, in IDLE and in a poll below the target, or moves it along a row. -/
theorem seqTurn_movesAlongBusyRow {s : State} (hne : (seqTurn s).seq ≠ s.seq) : MovesAlongBusyRow s (seqTurn s) := by
  unfold seqTurn at hne ⊢
  rcases seqStep_cases s with ⟨-, e⟩ | ⟨-, -, e⟩ | ⟨hq, hle, e⟩ | ⟨hq, e⟩ | ⟨hq, hr, e⟩ | ⟨hq, hr, e⟩ | ⟨hq, e⟩ <;>
    rw [e] at hne ⊢
  · exact absurd rfl hne
  · exact absurd rfl hne
  · exact .inl ⟨hq, hle, rfl⟩
  · exact .inr (.inl ⟨hq, cont_seq_cases s.ret (doStop s)⟩)
  · exact .inr (.inr (.inl ⟨hq, .inl ⟨hr, rfl⟩⟩))
  · exact .inr (.inr (.inl ⟨hq, .inr ⟨hr, rfl, rfl⟩⟩))
  · exact .inr (.inr (.inr ⟨hq, rfl⟩))

@[simp] theorem tickTurn_seq (s : State) : (tickTurn s).seq = s.seq := by
  rcases tickTurn_cases s with ⟨-, e⟩ | ⟨-, e⟩ <;> rw [e]

/-- Settles O40: the HOST moves SEQ only by the command it presents, the SEQ agent along the rows of the busy
micro-states, and a compare-match not at all. -/
theorem seqMovesOnlyAlongTheTable : Obligations.SeqMovesOnlyAlongTheTable := by
  intro s t h hreset hne
  obtain ⟨ts, -, ⟨hn, hh⟩ | ⟨hn, rfl⟩ | ⟨-, -, rfl⟩ | ⟨hn, -⟩⟩ := step_cases h
  · rcases hostTurn_cases hh with ⟨-, rfl⟩ | ⟨q, -, -, rfl⟩ | ⟨w, q, i, hi, hq, hd, he⟩
    · exact absurd rfl hne
    · exact absurd rfl hne
    · have hp : Presents s w q (nextTurn s).2 := presents_of_hostTurn hn hi hq
      have ht : t.seq ≠ .idle := fun e => hne (e.trans hi.symm)
      exact .inl ⟨hi, w, q, _, i, hp, hd, exec_leavesIdleBy (s := afterFetch s q ts) hi he ht⟩
  · exact .inr ⟨hn, seqTurn_movesAlongBusyRow (s := { s with turns := ts }) hne⟩
  · exact absurd (tickTurn_seq _) hne
  · exact absurd (nextTurn_reset hn) hreset

/-! ### Only a refused word has no next state (R180, R181) -/

/-- A command has a next state, unless its rate is out of contract, and then it is refused (30_encoding.md R76). -/
theorem exec_next_or_refused (i : Instr) (s : State) :
    (∃ t, exec i s = .next t) ∨ (i.wellFormed = false ∧ ∃ r, exec i s = .refused r) := by
  cases i with
  | tmrStart r =>
    rcases rateOf_cases r with ⟨-, e⟩ | ⟨-, e⟩ | ⟨hr, -⟩
    · exact .inl ⟨_, exec_tmrStart_of_rateOf e s⟩
    · exact .inl ⟨_, exec_tmrStart_of_rateOf e s⟩
    · exact .inr ⟨decide_eq_false (Nat.not_le.2 hr), _, exec_tmrStart_of_two_le hr s⟩
  | tmrStop => exact .inl ⟨_, exec_tmrStop s⟩
  | tickRd => exact .inl ⟨_, exec_tickRd s⟩
  | wait d => exact .inl ⟨_, exec_wait d s⟩
  | step n b =>
    cases hb : dirOf b with
    | some d => exact .inl ⟨_, exec_step_of_dir hb n s⟩
    | none => exact .inl ⟨_, exec_step_of_no_dir hb n s⟩
  | stepInit => exact .inl ⟨_, exec_stepInit s⟩
  | btnRd => exact .inl ⟨_, exec_btnRd s⟩
  | encRd => exact .inl ⟨_, exec_encRd s⟩

/-- A presented word is accepted, or refused because it is no well-formed command. -/
theorem accept_next_or_refused (w : CmdWord) (s : State) :
    (∃ t, accept w s = .next t) ∨
      ∃ r, accept w s = .refused r ∧ ¬∃ i, decodeWord w = .ok i ∧ i.wellFormed = true := by
  cases hd : decodeWord w with
  | error e => exact .inr ⟨_, accept_of_error hd s, nofun⟩
  | ok i =>
    rw [accept_of_ok hd]
    refine (exec_next_or_refused i s).imp_right ?_
    rintro ⟨hwf, r, hr⟩
    refine ⟨r, hr, ?_⟩
    rintro ⟨_, ⟨⟩, hwf'⟩
    cases hwf.symm.trans hwf'

/-- The HOST's turn has a next state, unless the block is idle and a word is at the head of the queue. -/
theorem hostTurn_next_or_command (s : State) :
    (∃ t, hostTurn s = .next t) ∨ (s.seq = .idle ∧ ∃ w q, s.hostQueue = .command w :: q) := by
  by_cases hi : s.seq = .idle
  · cases hq : s.hostQueue with
    | nil => exact .inl ⟨s, hostTurn_of_no_action hq⟩
    | cons a q =>
      cases a with
      | command w => exact .inr ⟨hi, w, q, rfl⟩
      | clearGie => exact .inl ⟨_, hostTurn_of_clearGie hi hq⟩
  · exact .inl ⟨s, hostTurn_of_busy hi⟩

/-- Settles O44: of the agents' turns only the HOST's can be without a next state, and only when it presents a word that
is refused. -/
theorem onlyRefusedWordsStopTheBlock : Obligations.OnlyRefusedWordsStopTheBlock := by
  intro s
  have hturn {x : Turn} (hn : (nextTurn s).1 = x) : step s = runTurn x { s with turns := (nextTurn s).2 } :=
    step_of_nextTurn (Prod.ext hn rfl)
  cases hn : (nextTurn s).1 with
  | host =>
    rcases hostTurn_next_or_command { s with turns := (nextTurn s).2 } with ⟨t, ht⟩ | ⟨hi, w, q, hq⟩
    · exact .inl ⟨t, (hturn hn).trans ht⟩
    · have hp : Presents s w q (nextTurn s).2 := presents_of_hostTurn hn hi hq
      rw [step_of_presents hp]
      exact (accept_next_or_refused w _).imp_right fun ⟨r, hr, hw⟩ => ⟨w, q, _, r, hp, hr, hw⟩
  | seq => exact .inl ⟨_, hturn hn⟩
  | tick => exact .inl ⟨_, hturn hn⟩
  | reset => exact .inl ⟨_, hturn hn⟩

end Sys2Proof.Machine
end

section
/-! Reset (70_reset_and_hazards.md): what the reset turn writes (R210, with the values of 10_state.md R41) and what it leaves
alone, the completions among them (R212); O48. -/

namespace Sys2Proof.Machine

/-! ### The reset turn (R210, R212) -/

theorem runTurn_reset (s : State) : runTurn .reset s = .next (resetCells s) := rfl

/-- R210: a reset leaves the ten cells as the reset state has them, whatever they held. -/
theorem resetCells_specCells (s : State) :
    (resetCells s).seq = .idle ∧ (resetCells s).tick = 0 ∧ (resetCells s).rate = .none ∧ (resetCells s).cmp = 0 ∧
      (resetCells s).tie = false ∧ (resetCells s).gie = false ∧ (resetCells s).coil = 0b0001 ∧
      (resetCells s).coilOut = 0b0000 ∧ (resetCells s).coilOe = 0b0000 ∧ (resetCells s).encPrev = 0b11 :=
  resetStateHasTheSpecsValues

/-- R212: a reset gives no completion, and the HOST's queue, the order of turns and the samples lie outside the block. -/
theorem resetCells_frame (s : State) :
    (resetCells s).completions = s.completions ∧ (resetCells s).hostQueue = s.hostQueue ∧
      (resetCells s).turns = s.turns ∧ (resetCells s).btnIn = s.btnIn ∧ (resetCells s).encIn = s.encIn ∧
      (resetCells s).draws = s.draws := by
  simp

/-- Settles O48: the reset turn is `resetCells`, which asks neither SEQ nor any other cell. -/
theorem resetAbandonsTheCommand : Obligations.ResetAbandonsTheCommand := by
  intro s
  obtain ⟨hseq, htick, hrate, hcmp, htie, hgie, hcoil, hout, hoe, henc⟩ := resetCells_specCells s
  exact ⟨resetCells s, runTurn_reset s, hseq, htick, hrate, hcmp, htie, hgie, hcoil, hout, hoe, henc, resetCells_frame s⟩

end Sys2Proof.Machine
end
